-- ==== Sys2Proof/Word.lean ====
section
/-! DEFINITION. The machine's word: every register of the block is 8 bits wide (10_state.md R21). -/

namespace Sys2Proof

/-- A register value, `wdata`, `rdata`: 8 bits (R21, R91). Bit 0 is the least significant bit (R11). -/
abbrev Byte := BitVec 8

end Sys2Proof
end

