-- ==== Sys2Proof/Config.lean ====
section
/-! DEFINITION. The parameters of 00_scope.md R8 (what an implementation fixes), the check of their constraints (R8, 92 D22),
the example configuration EX of 95_test_vectors.md section 0.1, and the one free value the spec leaves open (R203, 93 U13). -/

namespace Sys2Proof

/-- The two copies of the block in the system (00_scope.md R10). -/
inductive UsartId where
  | usart0
  | usart1
  deriving DecidableEq, Repr

/-- The two reference clocks A and B (00_scope.md R16, "Reference clock"). -/
inductive Clock where
  | A
  | B
  deriving DecidableEq, Repr

/-- `CLKSEL`, the total function from the four field codes to the two clocks (R8, 30_encoding.md R96), as its table. -/
structure ClockMap where
  code0 : Clock
  code1 : Clock
  code2 : Clock
  code3 : Clock
  deriving DecidableEq, Repr

/-- The per-copy parameters of R8, one field each; `ADDR_W` and `FLAG_W`, which the two copies share, are in `Config`,
and the frequencies, which the host supplies and may change (R50), are in State. -/
structure UnitConfig where
  /-- `ID` -/
  id : Nat
  /-- `BASE`, the bus address of slot 0 -/
  base : Nat
  /-- `TXIFG_MASK` -/
  txifgMask : Nat
  /-- `RXIFG_MASK` -/
  rxifgMask : Nat
  /-- `TX_EN_BIT` -/
  txEnBit : Nat
  /-- `RX_EN_BIT` -/
  rxEnBit : Nat
  /-- `TX_VEC`, read by no rule -/
  txVec : Nat
  /-- `RX_VEC`, read by no rule -/
  rxVec : Nat
  /-- `SPI_MODE_MASK` -/
  spiModeMask : Byte
  /-- `SSEL_LSB` -/
  sselLsb : Nat
  /-- `CLKSEL` -/
  clksel : ClockMap
  /-- `TXEPT_MASK` -/
  txeptMask : Byte
  /-- `STARTUP_DELAY` -/
  startupDelay : Nat
  /-- `TPB_INIT` -/
  tpbInit : Nat
  /-- `CLK_INIT` -/
  clkInit : Clock
  /-- `LISTENER` -/
  listener : Bool
  deriving DecidableEq, Repr

/-- The configuration of the system: the bus and flag-register widths and the parameters of the two copies. -/
structure Config where
  /-- `ADDR_W` -/
  addrW : Nat
  /-- `FLAG_W` -/
  flagW : Nat
  unit0 : UnitConfig
  unit1 : UnitConfig
  deriving DecidableEq, Repr

/-- The parameters of one copy. -/
def Config.unit (c : Config) : UsartId → UnitConfig
  | .usart0 => c.unit0
  | .usart1 => c.unit1

/-- "exactly one bit set" for a flag-register mask (R8). -/
def oneBit (m : Nat) : Bool := m != 0 && m &&& (m - 1) == 0

/-- "exactly one bit set" for a mask of a register (R8). -/
def oneBitByte (m : Byte) : Bool := m != 0 && m &&& (m - 1) == 0

/-- The two bits of the clock-select field of TCTL, `[SSEL_LSB+1 : SSEL_LSB]`, as a mask (R8, R23). -/
def UnitConfig.sselMask (u : UnitConfig) : Byte := (3 : Byte) <<< u.sselLsb

/-- The address lies in the copy's window `BASE .. BASE + 7` (20_memory.md R60). -/
def UnitConfig.inWindow (u : UnitConfig) (addr : Nat) : Bool := u.base ≤ addr && addr ≤ u.base + 7

/-- The constraint column of R8 for one copy, under address width `aw` and flag width `fw`. -/
def UnitConfig.wf (aw fw : Nat) (u : UnitConfig) : Bool :=
  decide (u.base + 7 < 2 ^ aw) &&
  oneBit u.txifgMask && decide (u.txifgMask < 2 ^ fw) &&
  oneBit u.rxifgMask && decide (u.rxifgMask < 2 ^ fw) &&
  (u.txifgMask &&& u.rxifgMask == 0) &&
  u.txEnBit != u.rxEnBit &&
  u.txVec != u.rxVec &&
  oneBitByte u.spiModeMask &&
  decide (u.sselLsb ≤ 6) &&
  oneBitByte u.txeptMask &&
  (u.txeptMask &&& u.sselMask == 0)

/-- Each copy "owns a distinct pair of interrupt vector numbers" (60_exceptions.md R227, 20_memory.md R63): no vector number of
one is a vector number of the other (DEDUCED, log 29). -/
def UnitConfig.vectorsApart (u v : UnitConfig) : Bool :=
  u.txVec != v.txVec && u.txVec != v.rxVec && u.rxVec != v.txVec && u.rxVec != v.rxVec

/-- A legal configuration: R8's constraints on each copy and between the two, and R227's on their vectors (92 D22: a model refuses any other). -/
def Config.wf (c : Config) : Bool :=
  decide (3 ≤ c.addrW) &&
  c.unit0.wf c.addrW c.flagW && c.unit1.wf c.addrW c.flagW &&
  c.unit0.id != c.unit1.id &&
  UnitConfig.vectorsApart c.unit0 c.unit1 &&
  (decide (c.unit0.base + 7 < c.unit1.base) || decide (c.unit1.base + 7 < c.unit0.base)) &&
  ((c.unit0.txifgMask ||| c.unit0.rxifgMask) &&& (c.unit1.txifgMask ||| c.unit1.rxifgMask) == 0)

/-- FREE VALUE (log 6): whether DELIVER emits its diagnostic. The source does not say for which answer of `isEnabled` it is
emitted (43_receive_and_flag_bridge.md R203, 93 U13). Keyed by the copy, by a counter that copy's DELIVERs advance, and by the answer. -/
opaque Config.rxDiagnosticEmitted : UsartId → Nat → Bool → Bool

/-- EX, copy 0 (95_test_vectors.md section 0.1; PRESUMED, log 1). -/
def UnitConfig.ex0 : UnitConfig where
  id := 0
  base := 0x70
  txifgMask := 0x80
  rxifgMask := 0x40
  txEnBit := 7
  rxEnBit := 6
  txVec := 8
  rxVec := 9
  spiModeMask := 0x04
  sselLsb := 4
  clksel := { code0 := .B, code1 := .A, code2 := .B, code3 := .B }
  txeptMask := 0x01
  startupDelay := 100
  tpbInit := 1000
  clkInit := .B
  listener := true

/-- EX, copy 1 (95_test_vectors.md section 0.1; PRESUMED, log 1). -/
def UnitConfig.ex1 : UnitConfig :=
  { UnitConfig.ex0 with
    id := 1, base := 0x78, txifgMask := 0x20, rxifgMask := 0x10, txEnBit := 5, rxEnBit := 4, txVec := 2, rxVec := 3 }

/-- The example configuration EX (95_test_vectors.md section 0.1). No rule of the model reads it but `State.reset` and
`decodeTableWord`, which need numbers (PRESUMED, log 1). -/
def Config.ex : Config where
  addrW := 16
  flagW := 8
  unit0 := UnitConfig.ex0
  unit1 := UnitConfig.ex1

end Sys2Proof
end

