-- ==== Sys2Proof/Syntax.lean ====
section
/-! DEFINITION. The operations (30_encoding.md R99, one constructor per row of spec/opcode_table.json), the register slots
(10_state.md R20), and the two formats in which the host presents an operation (R90 to R92). -/

namespace Sys2Proof

/-- The eight register slots of one copy (10_state.md R20). -/
inductive Slot where
  | ctl
  | tctl
  | rctl
  | mctl
  | br0
  | br1
  | rxbuf
  | txbuf
  deriving DecidableEq, Repr

/-- The byte offset of a slot from `BASE` (R20). -/
def Slot.offset : Slot → Nat
  | .ctl => 0
  | .tctl => 1
  | .rctl => 2
  | .mctl => 3
  | .br0 => 4
  | .br1 => 5
  | .rxbuf => 6
  | .txbuf => 7

/-- The 22 operations (R99). `u` is the copy addressed, `cycle` (or `t`) the host's cycle stamp (00_scope.md R13). -/
inductive Instr where
  | rdCtl (u : UsartId) (cycle : Nat)
  | rdTctl (u : UsartId) (cycle : Nat)
  | rdRctl (u : UsartId) (cycle : Nat)
  | rdMctl (u : UsartId) (cycle : Nat)
  | rdBr0 (u : UsartId) (cycle : Nat)
  | rdBr1 (u : UsartId) (cycle : Nat)
  | rdRxbuf (u : UsartId) (cycle : Nat)
  | rdTxbuf (u : UsartId) (cycle : Nat)
  | wrCtl (u : UsartId) (wdata : Byte) (cycle : Nat)
  | wrTctl (u : UsartId) (wdata : Byte) (cycle : Nat)
  | wrRctl (u : UsartId) (wdata : Byte) (cycle : Nat)
  | wrMctl (u : UsartId) (wdata : Byte) (cycle : Nat)
  | wrBr0 (u : UsartId) (wdata : Byte) (cycle : Nat)
  | wrBr1 (u : UsartId) (wdata : Byte) (cycle : Nat)
  | wrRxbuf (u : UsartId) (wdata : Byte) (cycle : Nat)
  | wrTxbuf (u : UsartId) (wdata : Byte) (cycle : Nat)
  | rdNone (addr : Nat) (cycle : Nat)
  | wrNone (addr : Nat) (wdata : Byte) (cycle : Nat)
  | reset (u : UsartId) (cycle : Nat)
  | tick (u : UsartId) (t : Nat)
  | deliver (u : UsartId) (b : Nat) (cycle : Nat)
  | enchg (u : UsartId) (bit : Nat) (on : Bool)
  deriving DecidableEq, Repr

/-- What the host presents: a BUS transaction (R91) or a PORT event of one copy (R92). A read ignores `wdata`
(R91: meaningful only when `we = 1`); a port ignores the arguments R92 does not give it. `num` is the port number (R98). -/
inductive Request where
  | bus (we : Bool) (addr : Nat) (wdata : Byte) (cycle : Nat)
  | port (u : UsartId) (num : Nat) (cycle : Nat) (arg : Nat) (on : Bool)
  deriving DecidableEq, Repr

end Sys2Proof
end

