-- ==== Sys2Proof/WellFormed.lean ====
section
/-! DEFINITION. Which operations the host can present under a configuration. -/

namespace Sys2Proof

/-- A bus address: `ADDR_W` bits (20_memory.md R60). -/
def Config.onBus (c : Config) (addr : Nat) : Bool := decide (addr < 2 ^ c.addrW)

/-- The address selects neither copy (R61, R70). -/
def Config.unselected (c : Config) (addr : Nat) : Bool := !c.unit0.inWindow addr && !c.unit1.inWindow addr

/-- Well-formedness: an unselected access carries a bus address outside both windows (40_register_file.md R136, R137);
every other operand is right by its type. -/
def Instr.wf (c : Config) : Instr → Bool
  | .rdCtl _ _ => true
  | .rdTctl _ _ => true
  | .rdRctl _ _ => true
  | .rdMctl _ _ => true
  | .rdBr0 _ _ => true
  | .rdBr1 _ _ => true
  | .rdRxbuf _ _ => true
  | .rdTxbuf _ _ => true
  | .wrCtl _ _ _ => true
  | .wrTctl _ _ _ => true
  | .wrRctl _ _ _ => true
  | .wrMctl _ _ _ => true
  | .wrBr0 _ _ _ => true
  | .wrBr1 _ _ _ => true
  | .wrRxbuf _ _ _ => true
  | .wrTxbuf _ _ _ => true
  | .rdNone addr _ => c.onBus addr && c.unselected addr
  | .wrNone addr _ _ => c.onBus addr && c.unselected addr
  | .reset _ _ => true
  | .tick _ _ => true
  | .deliver _ _ _ => true
  | .enchg _ _ _ => true

end Sys2Proof
end

