-- ==== Sys2Proof/Decode.lean ====
section
/-! DEFINITION. The decoder: from what the host presents (a bus transaction or a port event) to the operation
(20_memory.md R61, 30_encoding.md R98, R99), total, refusing by name; after it the encoder, the selector of R98 and the
table-word form the host numbers operations with. -/

namespace Sys2Proof

/-- Why a presented request is no operation. -/
inductive Reject where
  /-- the address does not fit the `ADDR_W`-bit bus (R60) -/
  | addressTooWide
  /-- a port number other than 0 to 3 (R101: "name no operation") -/
  | reservedPort (num : Nat)
  deriving DecidableEq, Repr

/-- `offset = addr - BASE`, computed on integers (R61). -/
def UnitConfig.offsetOf (u : UnitConfig) (addr : Nat) : Int := (addr : Int) - (u.base : Int)

/-- The slot with a given offset (R20). -/
def slotOfOffset : Nat → Option Slot
  | 0 => some .ctl
  | 1 => some .tctl
  | 2 => some .rctl
  | 3 => some .mctl
  | 4 => some .br0
  | 5 => some .br1
  | 6 => some .rxbuf
  | 7 => some .txbuf
  | _ => none

/-- The slot at an offset, when the offset selects the block (R61: `0 <= offset <= 7`). -/
def slotAt (offset : Int) : Option Slot := if 0 ≤ offset then slotOfOffset offset.toNat else none

/-- The address decoders of the two copies: which register, if any, an address selects (R61, R62). The windows of a legal
configuration do not overlap (R8), so the order of the two tests does not matter. -/
def Config.select (c : Config) (addr : Nat) : Option (UsartId × Slot) :=
  match slotAt (c.unit0.offsetOf addr) with
  | some sl => some (.usart0, sl)
  | none =>
    match slotAt (c.unit1.offsetOf addr) with
    | some sl => some (.usart1, sl)
    | none => none

/-- The read of a slot (R99, rows `0 0 0 xxx`). -/
def readInstr (u : UsartId) (cycle : Nat) : Slot → Instr
  | .ctl => .rdCtl u cycle
  | .tctl => .rdTctl u cycle
  | .rctl => .rdRctl u cycle
  | .mctl => .rdMctl u cycle
  | .br0 => .rdBr0 u cycle
  | .br1 => .rdBr1 u cycle
  | .rxbuf => .rdRxbuf u cycle
  | .txbuf => .rdTxbuf u cycle

/-- The write of a slot (R99, rows `0 0 1 xxx`). -/
def writeInstr (u : UsartId) (wdata : Byte) (cycle : Nat) : Slot → Instr
  | .ctl => .wrCtl u wdata cycle
  | .tctl => .wrTctl u wdata cycle
  | .rctl => .wrRctl u wdata cycle
  | .mctl => .wrMctl u wdata cycle
  | .br0 => .wrBr0 u wdata cycle
  | .br1 => .wrBr1 u wdata cycle
  | .rxbuf => .wrRxbuf u wdata cycle
  | .txbuf => .wrTxbuf u wdata cycle

/-- The operation of a bus transaction: the pair (`we`, `offset`) selects it (R138, R99). -/
def decodeBus (c : Config) (we : Bool) (addr : Nat) (wdata : Byte) (cycle : Nat) : Instr :=
  match c.select addr with
  | some (u, sl) => if we then writeInstr u wdata cycle sl else readInstr u cycle sl
  | none => if we then .wrNone addr wdata cycle else .rdNone addr cycle

/-- The operation of a port event (R92, R98, R99). -/
def decodePort (u : UsartId) (cycle arg : Nat) (on : Bool) : Nat → Except Reject Instr
  | 0 => .ok (.reset u cycle)
  | 1 => .ok (.tick u cycle)
  | 2 => .ok (.deliver u arg cycle)
  | 3 => .ok (.enchg u arg on)
  | num => .error (.reservedPort num)

/-- The decoder (R90, R98, R99). -/
def decode (c : Config) : Request → Except Reject Instr
  | .bus we addr wdata cycle =>
    if c.onBus addr then .ok (decodeBus c we addr wdata cycle) else .error .addressTooWide
  | .port u num cycle arg on => decodePort u cycle arg on num

/-- The bus address of a register (R20, R62). -/
def Config.addrOf (c : Config) (u : UsartId) (sl : Slot) : Nat := (c.unit u).base + sl.offset

/-- A read of a register as a bus transaction; `wdata` is not meaningful (R91) and is driven 0. -/
def readRequest (c : Config) (u : UsartId) (sl : Slot) (cycle : Nat) : Request :=
  .bus false (c.addrOf u sl) 0 cycle

/-- A write of a register as a bus transaction. -/
def writeRequest (c : Config) (u : UsartId) (sl : Slot) (wdata : Byte) (cycle : Nat) : Request :=
  .bus true (c.addrOf u sl) wdata cycle

/-- The encoder: what the host presents for an operation (R91, R92, R99). -/
def encode (c : Config) : Instr → Request
  | .rdCtl u cycle => readRequest c u .ctl cycle
  | .rdTctl u cycle => readRequest c u .tctl cycle
  | .rdRctl u cycle => readRequest c u .rctl cycle
  | .rdMctl u cycle => readRequest c u .mctl cycle
  | .rdBr0 u cycle => readRequest c u .br0 cycle
  | .rdBr1 u cycle => readRequest c u .br1 cycle
  | .rdRxbuf u cycle => readRequest c u .rxbuf cycle
  | .rdTxbuf u cycle => readRequest c u .txbuf cycle
  | .wrCtl u wdata cycle => writeRequest c u .ctl wdata cycle
  | .wrTctl u wdata cycle => writeRequest c u .tctl wdata cycle
  | .wrRctl u wdata cycle => writeRequest c u .rctl wdata cycle
  | .wrMctl u wdata cycle => writeRequest c u .mctl wdata cycle
  | .wrBr0 u wdata cycle => writeRequest c u .br0 wdata cycle
  | .wrBr1 u wdata cycle => writeRequest c u .br1 wdata cycle
  | .wrRxbuf u wdata cycle => writeRequest c u .rxbuf wdata cycle
  | .wrTxbuf u wdata cycle => writeRequest c u .txbuf wdata cycle
  | .rdNone addr cycle => .bus false addr 0 cycle
  | .wrNone addr wdata cycle => .bus true addr wdata cycle
  | .reset u cycle => .port u 0 cycle 0 false
  | .tick u t => .port u 1 t 0 false
  | .deliver u b cycle => .port u 2 cycle b false
  | .enchg u bit on => .port u 3 0 bit on

/-- A host write wider than a byte: the boundary masks it, and only the addressed slot sees it (R66; the spec's decision D15, log 13). -/
def wideWriteRequest (addr value cycle : Nat) : Request := .bus true addr (BitVec.ofNat 8 value) cycle

/-- The 6-bit selector of an operation (R98, R99): `sel[5]` format, `sel[4]` outside the window, `sel[3]` `we`, `sel[2:0]`
offset; for a port, `sel[4:0]` its number. `sel[2:0]` of an unselected access is ignored by R98 and written 0. -/
def Instr.selector : Instr → BitVec 6
  | .rdCtl _ _ => 0b000000
  | .rdTctl _ _ => 0b000001
  | .rdRctl _ _ => 0b000010
  | .rdMctl _ _ => 0b000011
  | .rdBr0 _ _ => 0b000100
  | .rdBr1 _ _ => 0b000101
  | .rdRxbuf _ _ => 0b000110
  | .rdTxbuf _ _ => 0b000111
  | .wrCtl _ _ _ => 0b001000
  | .wrTctl _ _ _ => 0b001001
  | .wrRctl _ _ _ => 0b001010
  | .wrMctl _ _ _ => 0b001011
  | .wrBr0 _ _ _ => 0b001100
  | .wrBr1 _ _ _ => 0b001101
  | .wrRxbuf _ _ _ => 0b001110
  | .wrTxbuf _ _ _ => 0b001111
  | .rdNone _ _ => 0b010000
  | .wrNone _ _ _ => 0b011000
  | .reset _ _ => 0b100000
  | .tick _ _ => 0b100001
  | .deliver _ _ _ => 0b100010
  | .enchg _ _ _ => 0b100011

/-- An address outside both windows: each window of eight holds exactly one multiple of 8, so one of 0, 8, 16 is outside. -/
def Config.outsideAddr (c : Config) : Nat :=
  if c.unselected 0 then 0 else if c.unselected 8 then 8 else 16

/-- The request a table word stands for: `sel` is bits 5:0 (R98), the operands the table gives no bits are 0, the copy is
copy 0, and `stamp` is the host's counter (log 9). A word with a bit above bit 5 set becomes a port number above 31, which no port has. -/
def Request.ofTableWord (c : Config) (stamp w : Nat) : Request :=
  if w < 32 then
    .bus (w.testBit 3) (if w.testBit 4 then c.outsideAddr else c.unit0.base + w % 8) 0 stamp
  else
    .port .usart0 (w - 32) stamp 0 false

/-- What the decoder reads from a table word under EX (log 9). Every row has 6 bits, so `nbits` does not matter. -/
def decodeTableWord (_nbits w : Nat) : Option Instr :=
  match decode Config.ex (Request.ofTableWord Config.ex 0 w) with
  | .ok i => some i
  | .error _ => none

/-- The shorthands of R104. -/
inductive Pseudo where
  | enableTx
  | disableTx
  | enableRx
  | disableRx
  | send (v : Byte) (cycle : Nat)
  | recv (cycle : Nat)
  | setDiv (d : BitVec 16) (cycle : Nat)
  deriving DecidableEq, Repr

/-- Their expansions on copy `u` (R104; the two writes of SETDIV carry one stamp, which no rule of theirs reads). -/
def Pseudo.expand (c : Config) (u : UsartId) : Pseudo → List Instr
  | .enableTx => [.enchg u (c.unit u).txEnBit true]
  | .disableTx => [.enchg u (c.unit u).txEnBit false]
  | .enableRx => [.enchg u (c.unit u).rxEnBit true]
  | .disableRx => [.enchg u (c.unit u).rxEnBit false]
  | .send v cycle => [.wrTxbuf u v cycle]
  | .recv cycle => [.rdRxbuf u cycle]
  | .setDiv d cycle => [.wrBr0 u (d.extractLsb' 0 8) cycle, .wrBr1 u (d.extractLsb' 8 8) cycle]

end Sys2Proof
end

