-- ==== Sys2Proof/Machine/State.lean ====
section
/-! DEFINITION. The state of 10_state.md (both copies of R10, and the external state of its section 7 that the block touches), the
reasons a step can stop, and the states at power-on and after reset (R52, R254). -/

namespace Sys2Proof.Machine

/-- The two notifications to the listener (43_receive_and_flag_bridge.md R209). -/
inductive Notification where
  | byteAvailableForTransmit (b : Byte)
  | receiveFlagCleared
  deriving DecidableEq, Repr

/-- The two diagnostic kinds (R210). -/
inductive Diagnostic where
  | txWriteDropped
  | rxIrqEnabled
  deriving DecidableEq, Repr

/-- TransmitState, derived and not stored (10_state.md R34). -/
inductive TransmitState where
  | idle
  | loaded
  | shifting
  deriving DecidableEq, Repr

/-- The state of one copy (10_state.md R20 to R47). -/
structure Usart where
  /-- `x[0]` (R22) -/
  ctl : Byte
  /-- `x[1]` (R23), TXEPT among its bits (R38) -/
  tctl : Byte
  /-- `x[2]` (R24) -/
  rctl : Byte
  /-- `x[3]` (R25) -/
  mctl : Byte
  /-- `x[4]` (R26) -/
  br0 : Byte
  /-- `x[5]` (R27) -/
  br1 : Byte
  /-- `x[6]` (R28) -/
  rxbuf : Byte
  /-- `x[7]` (R29), the storage of the queued byte -/
  txbuf : Byte
  /-- `txq_valid` (R44) -/
  txqValid : Bool
  /-- `TXSR` and `txsr_valid` together (R45): `none` is `txsr_valid = 0`, when the content is unobservable (log 3) -/
  txsr : Option Byte
  /-- `ev_valid` and `ev_cycle` together (R46): `none` is `ev_valid = 0` (log 3) -/
  event : Option Nat
  /-- `spi_mode` (R39) -/
  spiMode : Bool
  /-- `clk_sel` (R40) -/
  clkSel : Clock
  /-- `baud_rate` (R41) -/
  baudRate : Nat
  /-- `ticks_per_byte` (R42) -/
  ticksPerByte : Nat
  /-- `tx_enabled` (R43) -/
  txEnabled : Bool
  /-- `rx_enabled` (R43) -/
  rxEnabled : Bool
  /-- the notification trace (R47), oldest first -/
  notes : List Notification
  /-- the diagnostic trace (R47), oldest first -/
  diags : List Diagnostic
  /-- THE MODEL'S OWN: how many free diagnostic choices this copy has drawn (log 6) -/
  draws : Nat
  deriving DecidableEq, Repr

/-- The clock frequencies the host supplies (R50). -/
structure Freqs where
  /-- `F_A` -/
  fA : Nat
  /-- `F_B` -/
  fB : Nat
  /-- `F_SEC` -/
  fSec : Nat
  deriving DecidableEq, Repr

/-- What the host does, one entry a step: it presents an operation, or changes state of its own that the block reads
(the flag and enable registers, R48, R230; the frequencies, R50). -/
inductive Input where
  | request (r : Request)
  | writeIfg (v : Nat)
  | writeIe (v : Nat)
  | setFreqs (f : Freqs)
  deriving DecidableEq, Repr

/-- The state of the machine. -/
structure State where
  /-- the parameters (R8); no step changes them -/
  cfg : Config
  usart0 : Usart
  usart1 : Usart
  /-- `IFG`, the shared external flag register (R48) -/
  ifg : Nat
  /-- `IE`, the external enable register (R48) -/
  ie : Nat
  /-- the host's clock frequencies (R50), which the copies share (60_exceptions.md R239) -/
  freqs : Freqs
  /-- the host's cycle counter: the stamp of the latest operation (R49) -/
  cycle : Nat
  /-- `rdata` (30_encoding.md R91): what the latest operation returned, `none` when it was no read (R138: "a write returns nothing") -/
  rdata : Option Byte
  /-- what the host is going to do, in its order (20_memory.md R72, R73) -/
  inputs : List Input
  deriving DecidableEq, Repr

/-- The block raises no exception and no operation is fatal (60_exceptions.md R225; 93 section 1, last line), so no step faults. -/
inductive Fault where
  deriving DecidableEq, Repr

/-- Why a step stops. In every case the host asked for what the spec says it never asks for; each is safe. -/
inductive Refusal where
  /-- raised by an arm of `exec` for an instruction without a meaning (none in this model); safe -/
  | notModelled (mnemonic : String)
  /-- raised by TICK when no event is pending or the event is not due (42_transmit_engine.md R179; 93 U11: "no step exists"); safe -/
  | tickNotDue
  /-- raised by `runNext` when the decoder refuses a port number that names no operation (30_encoding.md R101); safe -/
  | reservedPort (num : Nat)
  /-- raised by `runNext` when a bus request carries more than `ADDR_W` address bits (20_memory.md R60); safe -/
  | addressTooWide
  /-- raised by `runNext` when an operation is stamped before the host's counter (R49: "does not decrease"); safe -/
  | stampWentBack
  /-- raised by `runNext` under a configuration that breaks a constraint of 00_scope.md R8 (92 D22: "a model refuses it"); safe -/
  | illegalConfig
  deriving DecidableEq, Repr

/-- One copy at power-on (R52, power-on column; `baud_rate` is unspecified there, log 2). -/
def Usart.powerOn (c : UnitConfig) : Usart where
  ctl := 0
  tctl := 0
  rctl := 0
  mctl := 0
  br0 := 0
  br1 := 0
  rxbuf := 0
  txbuf := 0
  txqValid := false
  txsr := none
  event := none
  spiMode := false
  clkSel := c.clkInit
  baudRate := 0
  ticksPerByte := c.tpbInit
  txEnabled := false
  rxEnabled := false
  notes := []
  diags := []
  draws := 0

/-- One copy after power-on and its first RESET, stamped `cycle` (70_reset_and_hazards.md R254). -/
def Usart.afterReset (c : UnitConfig) (cycle : Nat) : Usart :=
  { Usart.powerOn c with tctl := c.txeptMask, event := some (cycle + c.startupDelay) }

/-- The system at power-on: the flag and enable registers are the host's, taken as 0 (log 4). -/
def State.powerOn (cfg : Config) (freqs : Freqs) : State where
  cfg := cfg
  usart0 := Usart.powerOn cfg.unit0
  usart1 := Usart.powerOn cfg.unit1
  ifg := 0
  ie := 0
  freqs := freqs
  cycle := 0
  rdata := none
  inputs := []

/-- The system after power-on and the first RESET of each copy, both stamped `cycle` (R254). -/
def State.afterReset (cfg : Config) (freqs : Freqs) (cycle : Nat) : State :=
  { State.powerOn cfg freqs with
    usart0 := Usart.afterReset cfg.unit0 cycle
    usart1 := Usart.afterReset cfg.unit1 cycle
    cycle := cycle }

/-- The frequencies of EX (95_test_vectors.md section 0.1; PRESUMED, log 1). -/
def Freqs.ex : Freqs where
  fA := 32768
  fB := 1000000
  fSec := 1000000

/-- The machine right after reset: both copies reset at cycle 0 (R254) under EX (log 1), nothing presented. -/
def State.reset : State := State.afterReset Config.ex Freqs.ex 0

end Sys2Proof.Machine
end

