-- ==== Sys2Proof/Machine/Operands.lean ====
section
/-! DEFINITION. The assembled quantities of 30_encoding.md R94 and the constants of 00_scope.md R9. -/

namespace Sys2Proof.Machine

/-- `LOAD_DELAY` (R9). -/
def loadDelay : Nat := 3

/-- `SHIFT_EXTRA` (R9). -/
def shiftExtra : Nat := 1

/-- `BITS_PER_BYTE` (R9). -/
def bitsPerByte : Nat := 8

/-- The weight of the high divisor byte (R9: the divisor is `low + 256 * high`). -/
def highWeight : Nat := 256

/-- `(v & m) != 0` -/
def anySet (v m : Byte) : Bool := v &&& m != 0

/-- `spi` bit of a value written to CTL (R94, R120). -/
def spiBit (c : UnitConfig) (wdata : Byte) : Bool := anySet wdata c.spiModeMask

/-- Clock-select code `s = wdata[SSEL_LSB+1 : SSEL_LSB]` (R94). -/
def clockCode (c : UnitConfig) (wdata : Byte) : BitVec 2 := wdata.extractLsb' c.sselLsb 2

/-- `CLKSEL(s)` (R8, R96). -/
def clockOf (m : ClockMap) (s : BitVec 2) : Clock :=
  match s.toNat with
  | 0 => m.code0
  | 1 => m.code1
  | 2 => m.code2
  | _ => m.code3

/-- The byte a write of TCTL stores: every bit but TXEPT, which keeps its hardware value (R94, R121). -/
def storedTctl (c : UnitConfig) (old wdata : Byte) : Byte := (wdata &&& ~~~c.txeptMask) ||| (old &&& c.txeptMask)

/-- `x[4] + 256 * x[5]`, 0 replaced by 1 (R94, R160, R161). -/
def divisor (br0 br1 : Byte) : Nat :=
  let d := br0.toNat + highWeight * br1.toNat
  if d = 0 then 1 else d

/-- The frequency of the selected clock (R160). -/
def Freqs.selected (f : Freqs) : Clock → Nat
  | .A => f.fA
  | .B => f.fB

/-- `b & 0xFF` (R94, R200). -/
def receivedByte (b : Nat) : Byte := BitVec.ofNat 8 b

/-- The target of the load event (R94, R175). -/
def loadTarget (cycle : Nat) : Nat := cycle + loadDelay

/-- The target of the shift-complete event (R94, R180). -/
def shiftTarget (t ticksPerByte : Nat) : Nat := t + ticksPerByte + shiftExtra

/-- The target of the startup event (R94, R250). -/
def startupTarget (c : UnitConfig) (cycle : Nat) : Nat := cycle + c.startupDelay

/-- The content of a slot (10_state.md R20). -/
def Usart.slot (u : Usart) : Slot → Byte
  | .ctl => u.ctl
  | .tctl => u.tctl
  | .rctl => u.rctl
  | .mctl => u.mctl
  | .br0 => u.br0
  | .br1 => u.br1
  | .rxbuf => u.rxbuf
  | .txbuf => u.txbuf

end Sys2Proof.Machine
end

