-- ==== Sys2Proof/Machine/Ops.lean ====
section
/-! DEFINITION. The named operations over the state: one copy's state in the whole, the scheduler and output primitives of
00_scope.md R13, and the two ways an operation ends. The block takes no exception and returns from none (60_exceptions.md
R225, R233, R234), so there is no operation for either. -/

namespace Sys2Proof.Machine

abbrev Result := Host.Outcome State Fault Refusal

/-- The state of copy `u`. -/
def State.usart (s : State) : UsartId → Usart
  | .usart0 => s.usart0
  | .usart1 => s.usart1

/-- Replace the state of copy `u`. -/
def State.setUsart (s : State) (u : UsartId) (x : Usart) : State :=
  match u with
  | .usart0 => { s with usart0 := x }
  | .usart1 => { s with usart1 := x }

/-- Update copy `u` by a function of its parameters and its state. -/
def State.modify (s : State) (u : UsartId) (f : UnitConfig → Usart → Usart) : State :=
  s.setUsart u (f (s.cfg.unit u) (s.usart u))

/-- `sched(c)`: the copy's one event, replacing any pending one (R13, 42_transmit_engine.md R179). -/
def Usart.sched (x : Usart) (target : Nat) : Usart := { x with event := some target }

/-- `unsched()` (R13). -/
def Usart.unsched (x : Usart) : Usart := { x with event := none }

/-- `notify`: append to the notification trace, only if a listener is attached (R13, R209). -/
def Usart.notify (x : Usart) (c : UnitConfig) (n : Notification) : Usart :=
  if c.listener then { x with notes := x.notes ++ [n] } else x

/-- `diag(k)`: append to the diagnostic trace (R13, R210). -/
def Usart.diag (x : Usart) (k : Diagnostic) : Usart := { x with diags := x.diags ++ [k] }

/-- TransmitState as a function of the two valid bits (10_state.md R34). -/
def Usart.txState (x : Usart) : TransmitState :=
  match x.txsr, x.txqValid with
  | none, false => .idle
  | none, true => .loaded
  | some _, _ => .shifting

/-- The gate of a TXBUF write (40_register_file.md R127). -/
def Usart.txGate (x : Usart) : Bool := x.txEnabled || (x.spiMode && x.rxEnabled)

/-- The host may fire the copy's event at `t`: one is pending and its target is reached (R179). -/
def Usart.tickDue (x : Usart) (t : Nat) : Bool :=
  match x.event with
  | some target => decide (target ≤ t)
  | none => false

/-- The operation completes and returns nothing (R138). -/
def complete (s : State) : Result := .next { s with rdata := none }

/-- The operation completes and returns `rdata` (R138). -/
def answer (v : Byte) (s : State) : Result := .next { s with rdata := some v }

/-- A plain register echo (40_register_file.md R128). -/
def echo (u : UsartId) (sl : Slot) (s : State) : Result := answer ((s.usart u).slot sl) s

/-- What a byte read at a bus address shows, without any side effect: the register there, or 0 where no copy is selected
(R70). An observer for claims; no operation calls it. -/
def State.busByte (s : State) (addr : Nat) : Byte :=
  match s.cfg.select addr with
  | some (u, sl) => (s.usart u).slot sl
  | none => 0

end Sys2Proof.Machine
end

