-- ==== Sys2Proof/Machine/Flags.lean ====
section
/-! DEFINITION. The Interrupt Flag Bridge (43_receive_and_flag_bridge.md R204 to R207) and TXEPT (10_state.md R38). -/

namespace Sys2Proof.Machine

/-- `v & ~m` on a register of any width: the bits of `m` that `v` has are flipped to 0. -/
def clearBits (v m : Nat) : Nat := v ^^^ (v &&& m)

/-- `setFlag(mask)`: `IFG <- IFG | mask` (R204). -/
def State.setFlag (s : State) (mask : Nat) : State := { s with ifg := s.ifg ||| mask }

/-- `clearFlag(mask)`: `IFG <- IFG & ~mask` (R205). -/
def State.clearFlag (s : State) (mask : Nat) : State := { s with ifg := clearBits s.ifg mask }

/-- `getFlags()` (R206). An observer: no operation of the block calls it. -/
def State.getFlags (s : State) : Nat := s.ifg

/-- `isEnabled(mask)`: `(IE & mask) = mask` (R207). -/
def State.isEnabled (s : State) (mask : Nat) : Bool := s.ie &&& mask == mask

/-- The transmit-ready flag of copy `u` (10_state.md R36). -/
def State.transmitReady (s : State) (u : UsartId) : Bool := s.getFlags &&& (s.cfg.unit u).txifgMask != 0

/-- The receive-ready flag of copy `u` (R37). -/
def State.receiveReady (s : State) (u : UsartId) : Bool := s.getFlags &&& (s.cfg.unit u).rxifgMask != 0

/-- TXEPT of a copy (R38). -/
def Usart.txept (x : Usart) (c : UnitConfig) : Bool := anySet x.tctl c.txeptMask

/-- Set TXEPT (R38). -/
def Usart.setTxept (x : Usart) (c : UnitConfig) : Usart := { x with tctl := x.tctl ||| c.txeptMask }

/-- Clear TXEPT (R38). -/
def Usart.clearTxept (x : Usart) (c : UnitConfig) : Usart := { x with tctl := x.tctl &&& ~~~c.txeptMask }

end Sys2Proof.Machine
end

