-- ==== Sys2Proof/Machine/ReceiveGate.lean ====
section
/-! DEFINITION. The Receive Gate and the enable notifications (43_receive_and_flag_bridge.md): DELIVER and ENCHG. -/

namespace Sys2Proof.Machine

/-- The diagnostic of DELIVER (R203): `isEnabled` is consulted for it alone, and whether it is emitted is a free value
for either answer (93 U13, log 6). -/
def Usart.rxDiagnostic (x : Usart) (u : UsartId) (enabled : Bool) : Usart :=
  { x with
    diags := x.diags ++ (if Config.rxDiagnosticEmitted u x.draws enabled then [.rxIrqEnabled] else [])
    draws := x.draws + 1 }

/-- DELIVER (R200): dropped when receive is disabled; the gate is `rx_enabled` alone (R202). -/
def execDeliver (u : UsartId) (b : Nat) (_cycle : Nat) (s : State) : Result :=
  if (s.usart u).rxEnabled then
    complete ((s.setFlag (s.cfg.unit u).rxifgMask).modify u (fun c x =>
      { x with rxbuf := receivedByte b }.rxDiagnostic u (s.isEnabled c.rxifgMask)))
  else complete s

/-- The copy's part of ENCHG (R208): any other bit position is ignored. -/
def Usart.enableChange (x : Usart) (c : UnitConfig) (bit : Nat) (on : Bool) : Usart :=
  if bit = c.txEnBit then { x with txEnabled := on }
  else if bit = c.rxEnBit then { x with rxEnabled := on }
  else x

/-- ENCHG (R208). -/
def execEnchg (u : UsartId) (bit : Nat) (on : Bool) (s : State) : Result :=
  complete (s.modify u (fun c x => x.enableChange c bit on))

end Sys2Proof.Machine
end

