-- ==== Sys2Proof/Machine/BaudClock.lean ====
section
/-! DEFINITION. The Baud-Rate Clock (41_baud_clock.md): `recompute()`. -/

namespace Sys2Proof.Machine

/-- `baud_rate`: the floor of selected frequency by divisor, 0 replaced by 1 (R160, R162). -/
def baudRateOf (fSelected div : Nat) : Nat :=
  let b := fSelected / div
  if b = 0 then 1 else b

/-- `ticks_per_byte`: from the secondary reference, whatever clock is selected (R160, R163). -/
def ticksPerByteOf (fSec baud : Nat) : Nat := (bitsPerByte * fSec) / baud

/-- `recompute()` (R160). -/
def Usart.recompute (x : Usart) (f : Freqs) : Usart :=
  let baud := baudRateOf (f.selected x.clkSel) (divisor x.br0 x.br1)
  { x with baudRate := baud, ticksPerByte := ticksPerByteOf f.fSec baud }

end Sys2Proof.Machine
end

