-- ==== Sys2Proof/Machine/TransmitEngine.lean ====
section
/-! DEFINITION. The Transmit Engine (42_transmit_engine.md): `submit` and TICK. -/

namespace Sys2Proof.Machine

/-- The copy's part of `submit(b, c)` (R175): `was_idle` is tested on the state before. -/
def Usart.submit (x : Usart) (c : UnitConfig) (b : Byte) (cycle : Nat) : Usart :=
  let queued := { x.clearTxept c with txbuf := b, txqValid := true }
  if x.txState = .idle then queued.sched (loadTarget cycle) else queued

/-- `submit(b, c)` (R175). -/
def submit (u : UsartId) (b : Byte) (cycle : Nat) (s : State) : State :=
  (s.clearFlag (s.cfg.unit u).txifgMask).modify u (fun c x => x.submit c b cycle)

/-- TICK, step 1: a byte has been fully clocked out (R180). -/
def Usart.finishShift (x : Usart) (c : UnitConfig) : Usart :=
  match x.txsr with
  | none => x
  | some b =>
    let told := x.notify c (.byteAvailableForTransmit b)
    if told.txqValid then told else { told.setTxept c with txsr := none }

/-- TICK, step 2: pick up the queued byte (R180). -/
def Usart.loadShift (x : Usart) (t : Nat) : Usart :=
  if x.txqValid then
    { x with txsr := some x.txbuf, txqValid := false }.sched (shiftTarget t x.ticksPerByte)
  else x

/-- The copy's part of TICK (R180): the pending event is consumed, then steps 1 and 2. -/
def Usart.tick (x : Usart) (c : UnitConfig) (t : Nat) : Usart := (x.unsched.finishShift c).loadShift t

/-- TICK (R180). The host presents it only when the event is pending and due (R179); otherwise no step exists (93 U11). -/
def execTick (u : UsartId) (t : Nat) (s : State) : Result :=
  if (s.usart u).tickDue t then
    complete ((s.modify u (fun c x => x.tick c t)).setFlag (s.cfg.unit u).txifgMask)
  else .refused .tickNotDue

end Sys2Proof.Machine
end

