-- ==== Sys2Proof/Machine/RegisterFile.lean ====
section
/-! DEFINITION. The register file operations (40_register_file.md): eight reads, eight writes, the unselected read and write.
No rule of these reads `cycle` but WR.TXBUF's (30_encoding.md R91). -/

namespace Sys2Proof.Machine

/-- RD.CTL (R128). -/
def execRdCtl (u : UsartId) (_cycle : Nat) (s : State) : Result := echo u .ctl s

/-- RD.TCTL (R129). -/
def execRdTctl (u : UsartId) (_cycle : Nat) (s : State) : Result := echo u .tctl s

/-- RD.RCTL (R130). -/
def execRdRctl (u : UsartId) (_cycle : Nat) (s : State) : Result := echo u .rctl s

/-- RD.MCTL (R131). -/
def execRdMctl (u : UsartId) (_cycle : Nat) (s : State) : Result := echo u .mctl s

/-- RD.BR0 (R132). -/
def execRdBr0 (u : UsartId) (_cycle : Nat) (s : State) : Result := echo u .br0 s

/-- RD.BR1 (R133). -/
def execRdBr1 (u : UsartId) (_cycle : Nat) (s : State) : Result := echo u .br1 s

/-- RD.RXBUF (R134): the echo, then the receive-ready flag is cleared and the listener told, on every read. -/
def execRdRxbuf (u : UsartId) (_cycle : Nat) (s : State) : Result :=
  answer ((s.usart u).slot .rxbuf)
    ((s.clearFlag (s.cfg.unit u).rxifgMask).modify u (fun c x => x.notify c .receiveFlagCleared))

/-- RD.TXBUF (R135). -/
def execRdTxbuf (u : UsartId) (_cycle : Nat) (s : State) : Result := echo u .txbuf s

/-- RD.NONE (R136). -/
def execRdNone (_addr : Nat) (_cycle : Nat) (s : State) : Result := answer 0 s

/-- WR.CTL (R120). -/
def execWrCtl (u : UsartId) (wdata : Byte) (_cycle : Nat) (s : State) : Result :=
  complete (s.modify u (fun c x => { x with ctl := wdata, spiMode := spiBit c wdata }))

/-- WR.TCTL (R121). -/
def execWrTctl (u : UsartId) (wdata : Byte) (_cycle : Nat) (s : State) : Result :=
  complete (s.modify u (fun c x =>
    { x with tctl := storedTctl c x.tctl wdata, clkSel := clockOf c.clksel (clockCode c wdata) }.recompute s.freqs))

/-- WR.RCTL (R122). -/
def execWrRctl (u : UsartId) (wdata : Byte) (_cycle : Nat) (s : State) : Result :=
  complete (s.modify u (fun _ x => { x with rctl := wdata }))

/-- WR.MCTL (R123): no recomputation. -/
def execWrMctl (u : UsartId) (wdata : Byte) (_cycle : Nat) (s : State) : Result :=
  complete (s.modify u (fun _ x => { x with mctl := wdata }))

/-- WR.BR0 (R124). -/
def execWrBr0 (u : UsartId) (wdata : Byte) (_cycle : Nat) (s : State) : Result :=
  complete (s.modify u (fun _ x => { x with br0 := wdata }.recompute s.freqs))

/-- WR.BR1 (R125). -/
def execWrBr1 (u : UsartId) (wdata : Byte) (_cycle : Nat) (s : State) : Result :=
  complete (s.modify u (fun _ x => { x with br1 := wdata }.recompute s.freqs))

/-- WR.RXBUF (R126): ignored. -/
def execWrRxbuf (_u : UsartId) (_wdata : Byte) (_cycle : Nat) (s : State) : Result := complete s

/-- WR.TXBUF (R127): gated submit, else dropped with a diagnostic and nothing else. -/
def execWrTxbuf (u : UsartId) (wdata : Byte) (cycle : Nat) (s : State) : Result :=
  if (s.usart u).txGate then complete (submit u wdata cycle s)
  else complete (s.modify u (fun _ x => x.diag .txWriteDropped))

/-- WR.NONE (R137): ignored. -/
def execWrNone (_addr : Nat) (_wdata : Byte) (_cycle : Nat) (s : State) : Result := complete s

end Sys2Proof.Machine
end

