-- ==== Sys2Proof/Machine/Reset.lean ====
section
/-! DEFINITION. RESET (70_reset_and_hazards.md R250). -/

namespace Sys2Proof.Machine

/-- The copy's part of RESET (R250); everything not written here is left alone (R251). -/
def Usart.resetAt (x : Usart) (c : UnitConfig) (cycle : Nat) : Usart :=
  { ({ x with txqValid := false, txsr := none }.setTxept c).sched (startupTarget c cycle) with
    txEnabled := false, rxEnabled := false }

/-- RESET (R250): both flags are cleared in one `clearFlag` (60_exceptions.md R232). -/
def execReset (u : UsartId) (cycle : Nat) (s : State) : Result :=
  complete ((s.clearFlag ((s.cfg.unit u).txifgMask ||| (s.cfg.unit u).rxifgMask)).modify u (fun c x => x.resetAt c cycle))

end Sys2Proof.Machine
end

