-- ==== Sys2Proof/Machine/Dispatch.lean ====
section
/-! DEFINITION. One arm per operation (30_encoding.md R99). -/

namespace Sys2Proof.Machine

def exec (i : Instr) (s : State) : Host.Outcome State Fault Refusal :=
  match i with
  | .rdCtl u cycle => Sys2Proof.Machine.execRdCtl u cycle s
  | .rdTctl u cycle => Sys2Proof.Machine.execRdTctl u cycle s
  | .rdRctl u cycle => Sys2Proof.Machine.execRdRctl u cycle s
  | .rdMctl u cycle => Sys2Proof.Machine.execRdMctl u cycle s
  | .rdBr0 u cycle => Sys2Proof.Machine.execRdBr0 u cycle s
  | .rdBr1 u cycle => Sys2Proof.Machine.execRdBr1 u cycle s
  | .rdRxbuf u cycle => Sys2Proof.Machine.execRdRxbuf u cycle s
  | .rdTxbuf u cycle => Sys2Proof.Machine.execRdTxbuf u cycle s
  | .wrCtl u wdata cycle => Sys2Proof.Machine.execWrCtl u wdata cycle s
  | .wrTctl u wdata cycle => Sys2Proof.Machine.execWrTctl u wdata cycle s
  | .wrRctl u wdata cycle => Sys2Proof.Machine.execWrRctl u wdata cycle s
  | .wrMctl u wdata cycle => Sys2Proof.Machine.execWrMctl u wdata cycle s
  | .wrBr0 u wdata cycle => Sys2Proof.Machine.execWrBr0 u wdata cycle s
  | .wrBr1 u wdata cycle => Sys2Proof.Machine.execWrBr1 u wdata cycle s
  | .wrRxbuf u wdata cycle => Sys2Proof.Machine.execWrRxbuf u wdata cycle s
  | .wrTxbuf u wdata cycle => Sys2Proof.Machine.execWrTxbuf u wdata cycle s
  | .rdNone addr cycle => Sys2Proof.Machine.execRdNone addr cycle s
  | .wrNone addr wdata cycle => Sys2Proof.Machine.execWrNone addr wdata cycle s
  | .reset u cycle => Sys2Proof.Machine.execReset u cycle s
  | .tick u t => Sys2Proof.Machine.execTick u t s
  | .deliver u b cycle => Sys2Proof.Machine.execDeliver u b cycle s
  | .enchg u bit on => Sys2Proof.Machine.execEnchg u bit on s

end Sys2Proof.Machine
end

