-- ==== Sys2Proof/Machine/Fetch.lean ====
section
/-! DEFINITION. How the next operation reaches the block. The block fetches nothing (10_state.md R33): the host presents one
operation at a time in its own order (20_memory.md R72, R73), here the list `inputs` (log 5). -/

namespace Sys2Proof.Machine

/-- The cycle stamp of an operation (R13); ENCHG carries none (30_encoding.md R92). -/
def stampOf : Instr → Option Nat
  | .rdCtl _ cycle => some cycle
  | .rdTctl _ cycle => some cycle
  | .rdRctl _ cycle => some cycle
  | .rdMctl _ cycle => some cycle
  | .rdBr0 _ cycle => some cycle
  | .rdBr1 _ cycle => some cycle
  | .rdRxbuf _ cycle => some cycle
  | .rdTxbuf _ cycle => some cycle
  | .wrCtl _ _ cycle => some cycle
  | .wrTctl _ _ cycle => some cycle
  | .wrRctl _ _ cycle => some cycle
  | .wrMctl _ _ cycle => some cycle
  | .wrBr0 _ _ cycle => some cycle
  | .wrBr1 _ _ cycle => some cycle
  | .wrRxbuf _ _ cycle => some cycle
  | .wrTxbuf _ _ cycle => some cycle
  | .rdNone _ cycle => some cycle
  | .wrNone _ _ cycle => some cycle
  | .reset _ cycle => some cycle
  | .tick _ t => some t
  | .deliver _ _ cycle => some cycle
  | .enchg _ _ _ => none

/-- The host's counter when the operation is presented: its stamp, or the counter as it stands (10_state.md R49). -/
def State.counterAt (s : State) (i : Instr) : Nat := (stampOf i).getD s.cycle

/-- The refusal that answers a rejected request. -/
def refusalOf : Reject → Refusal
  | .addressTooWide => .addressTooWide
  | .reservedPort num => .reservedPort num

/-- Perform one presented operation: the counter, which never decreases (R49), moves to its stamp. -/
def perform (i : Instr) (s : State) : Result :=
  if s.cycle ≤ s.counterAt i then exec i { s with cycle := s.counterAt i } else .refused .stampWentBack

/-- One action of the host: it presents an operation, or changes its own registers or frequencies (R48, R50, R230). A flag
or enable register holds `FLAG_W` bits (R48), so a host write keeps the low `FLAG_W` bits (log 12). -/
def applyInput (e : Input) (s : State) : Result :=
  match e with
  | .request r =>
    match decode s.cfg r with
    | .ok i => perform i s
    | .error e => .refused (refusalOf e)
  | .writeIfg v => .next { s with ifg := v % 2 ^ s.cfg.flagW }
  | .writeIe v => .next { s with ie := v % 2 ^ s.cfg.flagW }
  | .setFreqs f => .next { s with freqs := f }

/-- One step: the host's next action; when it has none, nothing happens (log 5). -/
def runNext (s : State) : Result :=
  if s.cfg.wf then
    match s.inputs with
    | [] => .next s
    | e :: rest => applyInput e { s with inputs := rest }
  else .refused .illegalConfig

/-- The stamp the host gives a table word presented next: its counter as it stands, and for TICK of copy 0 at least the
event's target, since the host fires no event before it (42_transmit_engine.md R179; log 9). -/
def fetchStamp (s : State) (w : Nat) : Nat :=
  if w = 33 then max s.cycle (s.usart0.event.getD 0) else s.cycle

/-- `s` with a table word's request presented next (log 9). -/
def presentWord (s : State) (w : Nat) : State :=
  { s with inputs := .request (Request.ofTableWord s.cfg (fetchStamp s w) w) :: s.inputs }

end Sys2Proof.Machine
end

