-- ==== Sys2Proof/Machine/Step.lean ====
section
/-! DEFINITION. The step of the machine, and where the host of this package places a table word. -/

namespace Sys2Proof.Machine

/-- One step (20_memory.md R72). -/
def step (s : State) : Host.Outcome State Fault Refusal := runNext s

/-- A table word's request stands first in the host's order, with the stamp the host's counter gives it (log 9). -/
def State.withFetchWord (s : State) (_nbits w : Nat) : State := presentWord s w

end Sys2Proof.Machine
end

