-- ==== Sys2Proof/Safety.lean ====
section
/-! DEFINITION. What counts as a consistent state and as a safe step, and the frame vocabulary of the statements. -/

namespace Sys2Proof.Machine

/-- The invariants of one copy: I3 and I4 of 10_state.md R35, and `spi_mode` as a function of CTL (R39). -/
abbrev Usart.Consistent (c : UnitConfig) (x : Usart) : Prop :=
  (x.txept c = true ↔ x.txState = .idle) ∧
  (x.txState ≠ .idle → x.event.isSome = true) ∧
  x.spiMode = spiBit c x.ctl

/-- The invariant of the machine: a legal configuration (R8), both copies consistent, the external registers within
`FLAG_W` bits (R48). -/
abbrev State.Inv (s : State) : Prop :=
  s.cfg.wf = true ∧
  s.usart0.Consistent s.cfg.unit0 ∧
  s.usart1.Consistent s.cfg.unit1 ∧
  s.ifg < 2 ^ s.cfg.flagW ∧
  s.ie < 2 ^ s.cfg.flagW

/-- The one condition the spec puts on performing an operation: a TICK needs its event pending and due (60_exceptions.md R226). -/
abbrev Performable (i : Instr) (s : State) : Prop :=
  match i with
  | .tick u t => (s.usart u).tickDue t = true
  | _ => True

/-- The host keeps its guarantees in what it does next: a legal configuration, and, for a presented operation, a request
that names an operation, a stamp not before the counter (10_state.md R49), and a TICK only when due (42_transmit_engine.md R179). -/
abbrev State.Presentable (s : State) : Prop :=
  s.cfg.wf = true ∧
  match s.inputs with
  | .request r :: _ =>
    match decode s.cfg r with
    | .ok i => s.cycle ≤ s.counterAt i ∧ Performable i s
    | .error _ => False
  | _ => True

/-- A safe step stops neither with a fault nor with a refusal. -/
abbrev SafeStep (s : State) : Prop :=
  match step s with
  | .next _ => True
  | _ => False

/-- The copy an operation addresses; an unselected access addresses none (20_memory.md R70). -/
def targetOf : Instr → Option UsartId
  | .rdCtl u _ => some u
  | .rdTctl u _ => some u
  | .rdRctl u _ => some u
  | .rdMctl u _ => some u
  | .rdBr0 u _ => some u
  | .rdBr1 u _ => some u
  | .rdRxbuf u _ => some u
  | .rdTxbuf u _ => some u
  | .wrCtl u _ _ => some u
  | .wrTctl u _ _ => some u
  | .wrRctl u _ _ => some u
  | .wrMctl u _ _ => some u
  | .wrBr0 u _ _ => some u
  | .wrBr1 u _ _ => some u
  | .wrRxbuf u _ _ => some u
  | .wrTxbuf u _ _ => some u
  | .rdNone _ _ => none
  | .wrNone _ _ _ => none
  | .reset u _ => some u
  | .tick u _ => some u
  | .deliver u _ _ => some u
  | .enchg u _ _ => some u

/-- Nothing differs but, possibly, the state of copy `u`, `IFG` and `rdata`. -/
abbrev SameElsewhere (u : UsartId) (s t : State) : Prop :=
  (∀ v, v ≠ u → t.usart v = s.usart v) ∧
  t.cfg = s.cfg ∧ t.ie = s.ie ∧ t.freqs = s.freqs ∧ t.cycle = s.cycle ∧ t.inputs = s.inputs

/-- The bits of `mask` are set in `IFG` and no other bit of it differs (43_receive_and_flag_bridge.md R204). -/
abbrev FlagsSet (mask : Nat) (s t : State) : Prop := ∀ b, t.ifg.testBit b = (s.ifg.testBit b || mask.testBit b)

/-- The bits of `mask` are clear in `IFG` and no other bit of it differs (R205). -/
abbrev FlagsCleared (mask : Nat) (s t : State) : Prop := ∀ b, t.ifg.testBit b = (s.ifg.testBit b && !mask.testBit b)

/-- A copy without its traces (10_state.md R47). -/
def Usart.withoutTraces (x : Usart) : Usart := { x with notes := [], diags := [] }

/-- The state without its traces. -/
def State.withoutTraces (s : State) : State :=
  { s with usart0 := s.usart0.withoutTraces, usart1 := s.usart1.withoutTraces }

/-- A copy without its diagnostic trace (R47). -/
def Usart.withoutDiagnostics (x : Usart) : Usart := { x with diags := [] }

/-- The state without its diagnostic traces. -/
def State.withoutDiagnostics (s : State) : State :=
  { s with usart0 := s.usart0.withoutDiagnostics, usart1 := s.usart1.withoutDiagnostics }

/-- The state without what the last operation returned. -/
def State.withoutAnswer (s : State) : State := { s with rdata := none }

end Sys2Proof.Machine
end

