-- ==== Sys2Proof/Certificates/Slice0/Obligations.lean ====
section
/-! DEFINITION. The statements for the provers. -/

open Sys2Proof Sys2Proof.Machine

/-- 30_encoding.md R99, the operation map, row by row; operands the table gives no bits are 0, the copy is copy 0, and the
unselected address is the model's (log 9). -/
def Obligations.OperationMapWordsDecode : Prop :=
  decodeTableWord 8 0b000000 = some (.rdCtl .usart0 0) ∧
  decodeTableWord 8 0b000001 = some (.rdTctl .usart0 0) ∧
  decodeTableWord 8 0b000010 = some (.rdRctl .usart0 0) ∧
  decodeTableWord 8 0b000011 = some (.rdMctl .usart0 0) ∧
  decodeTableWord 8 0b000100 = some (.rdBr0 .usart0 0) ∧
  decodeTableWord 8 0b000101 = some (.rdBr1 .usart0 0) ∧
  decodeTableWord 8 0b000110 = some (.rdRxbuf .usart0 0) ∧
  decodeTableWord 8 0b000111 = some (.rdTxbuf .usart0 0) ∧
  decodeTableWord 8 0b001000 = some (.wrCtl .usart0 0 0) ∧
  decodeTableWord 8 0b001001 = some (.wrTctl .usart0 0 0) ∧
  decodeTableWord 8 0b001010 = some (.wrRctl .usart0 0 0) ∧
  decodeTableWord 8 0b001011 = some (.wrMctl .usart0 0 0) ∧
  decodeTableWord 8 0b001100 = some (.wrBr0 .usart0 0 0) ∧
  decodeTableWord 8 0b001101 = some (.wrBr1 .usart0 0 0) ∧
  decodeTableWord 8 0b001110 = some (.wrRxbuf .usart0 0 0) ∧
  decodeTableWord 8 0b001111 = some (.wrTxbuf .usart0 0 0) ∧
  (∀ k, k < 8 → decodeTableWord 8 (0b010000 + k) = some (.rdNone 0 0)) ∧
  (∀ k, k < 8 → decodeTableWord 8 (0b011000 + k) = some (.wrNone 0 0 0)) ∧
  decodeTableWord 8 0b100000 = some (.reset .usart0 0) ∧
  decodeTableWord 8 0b100001 = some (.tick .usart0 0) ∧
  decodeTableWord 8 0b100010 = some (.deliver .usart0 0 0) ∧
  decodeTableWord 8 0b100011 = some (.enchg .usart0 0 false)

/-- 30_encoding.md section 5, last row of R101: the selectors `1 00100` to `1 11111` name no operation and are refused, by
port number; and so is every wider word. -/
def Obligations.UnnamedSelectorsRefused : Prop :=
  (∀ nbits w, 36 ≤ w → decodeTableWord nbits w = none) ∧
  (∀ c u num cycle arg on, 4 ≤ num → decode c (.port u num cycle arg on) = .error (.reservedPort num))

/-- What the host presents for a well-formed operation decodes to that operation, every operand kept (30_encoding.md R90 to R92, R99). -/
def Obligations.DecodeOfEncode : Prop :=
  ∀ (c : Config) (i : Instr), c.wf = true → i.wf c = true → decode c (encode c i) = .ok i

/-- The other direction on the bus: a transaction has one meaning, which is well formed, and the operation it decodes to is
presented by that transaction alone (a read's `wdata` is not meaningful, 30_encoding.md R91). -/
def Obligations.EncodeOfDecodedBus : Prop :=
  ∀ (c : Config) (we : Bool) (addr : Nat) (wdata : Byte) (cycle : Nat) (i : Instr), c.wf = true →
    decode c (.bus we addr wdata cycle) = .ok i →
    i.wf c = true ∧ encode c i = .bus we addr (if we then wdata else 0) cycle

/-- 20_memory.md R61: `offset = addr - BASE` on integers; the copy is selected exactly when `0 <= offset <= 7`, the slot is
`x[offset]`; and, the spec's own inference in that rule, the usual decoder when `BASE` is a multiple of 8. -/
def Obligations.AddressSelectsByOffset : Prop :=
  ∀ (c : Config) (u : UsartId) (addr : Nat), c.wf = true →
    (∀ sl, c.select addr = some (u, sl) ↔ (addr : Int) - ((c.unit u).base : Int) = (sl.offset : Int)) ∧
    ((∃ sl, c.select addr = some (u, sl)) ↔
      0 ≤ (addr : Int) - ((c.unit u).base : Int) ∧ (addr : Int) - ((c.unit u).base : Int) ≤ 7) ∧
    ((c.unit u).base % 8 = 0 →
      ((∃ sl, c.select addr = some (u, sl)) ↔ addr / 8 = (c.unit u).base / 8) ∧
      (∀ sl, c.select addr = some (u, sl) → sl.offset = addr % 8))

/-- A step performs the presented operation: when the next request decodes to `i` and is not stamped before the counter, the
step is `exec i` with the request consumed and the counter at the stamp (the model's convention, log 5). -/
def Obligations.StepPerformsDecoded : Prop :=
  ∀ (s : State) (r : Request) (rest : List Input) (i : Instr), s.cfg.wf = true →
    s.inputs = .request r :: rest → decode s.cfg r = .ok i → s.cycle ≤ s.counterAt i →
    step s = exec i { s with inputs := rest, cycle := s.counterAt i }

/-- The host's own changes (10_state.md R48, R50; 60_exceptions.md R230): each touches its register alone, and a host with
nothing to do changes nothing (the model's conventions, logs 5 and 12). -/
def Obligations.HostChangesTouchOnlyTheirRegister : Prop :=
  ∀ (s : State) (rest : List Input) (v : Nat) (f : Freqs), s.cfg.wf = true →
    (s.inputs = [] → step s = .next s) ∧
    (s.inputs = .writeIfg v :: rest → step s = .next { s with inputs := rest, ifg := v % 2 ^ s.cfg.flagW }) ∧
    (s.inputs = .writeIe v :: rest → step s = .next { s with inputs := rest, ie := v % 2 ^ s.cfg.flagW }) ∧
    (s.inputs = .setFreqs f :: rest → step s = .next { s with inputs := rest, freqs := f })

/-- A step answers a next state exactly when the configuration is legal (92 D22) and the next request, if any, is one the model
does not refuse, and never a fault (60_exceptions.md R225, R226). The refusals are the model's: a stamp before the counter (DESIGN
CHOICE, log 5), an address wider than the bus or an unnamed port (DEDUCED, log 8), a TICK that is not due (DEDUCED, log 7). -/
def Obligations.StepAnswersExactlyWhenPresentable : Prop :=
  ∀ s : State, ((∃ t, step s = .next t) ↔ s.Presentable) ∧ (∀ f, step s ≠ .fault f)

/-- 60_exceptions.md R226: every operation has a next state in every state; the only condition is that a TICK's event is
pending and due. -/
def Obligations.EveryOperationIsTotal : Prop :=
  ∀ (i : Instr) (s : State),
    ((∃ t, exec i s = .next t) ↔ ∀ u t, i = .tick u t → ∃ target, (s.usart u).event = some target ∧ target ≤ t) ∧
    (∀ f, exec i s ≠ .fault f)

/-- Power-on and the first RESET of each copy (70_reset_and_hazards.md R254, the spec's decision D11; power-on values, log 2):
the state reached, its fields, and `State.reset` as that state under EX at cycle 0 (PRESUMED, log 1). The state also has all of
`IFG` and `IE`, the host's registers, at 0 (DESIGN CHOICE, log 4), and the model's counter and empty list (DESIGN CHOICE, log 5). -/
def Obligations.PowerOnThenResets : Prop :=
  (∀ (cfg : Config) (f : Freqs) (cycle : Nat), ∃ t1 t2,
    exec (.reset .usart0 cycle) (State.powerOn cfg f) = .next t1 ∧
    exec (.reset .usart1 cycle) t1 = .next t2 ∧
    { t2 with cycle := cycle } = State.afterReset cfg f cycle ∧
    ∀ u, (t2.usart u).tctl = (cfg.unit u).txeptMask ∧
      (∀ sl, sl ≠ Slot.tctl → (t2.usart u).slot sl = 0) ∧
      (t2.usart u).txState = .idle ∧
      (t2.usart u).event = some (cycle + (cfg.unit u).startupDelay) ∧
      (t2.usart u).txEnabled = false ∧ (t2.usart u).rxEnabled = false ∧
      (t2.usart u).ticksPerByte = (cfg.unit u).tpbInit ∧
      (t2.usart u).clkSel = (cfg.unit u).clkInit ∧
      t2.transmitReady u = false ∧ t2.receiveReady u = false) ∧
  State.reset = State.afterReset Config.ex Freqs.ex 0

/-- The invariant (10_state.md R35 I3, I4, R39, R48) holds after power-on and the RESET of both copies (70_reset_and_hazards.md
R254), under every legal configuration. It rests on the power-on values (the spec's D11, log 2), on `IFG` and `IE` at 0 (DESIGN
CHOICE, log 4) and, for `State.reset`, on EX (PRESUMED, log 1). -/
def Obligations.InvariantHoldsAfterReset : Prop :=
  State.reset.Inv ∧ ∀ (cfg : Config) (f : Freqs) (cycle : Nat), cfg.wf = true → (State.afterReset cfg f cycle).Inv

/-- Every step keeps the invariant: TXEPT is 1 exactly in idle, a non-idle transmitter has its event pending
(10_state.md R35 I3, I4), `spi_mode` is the tested bit of CTL (R39), the external registers stay within `FLAG_W` bits. -/
def Obligations.StepKeepsInvariant : Prop :=
  ∀ s t : State, s.Inv → step s = .next t → t.Inv

/-- 40_register_file.md R128 to R133: a plain read returns the register and does nothing else. -/
def Obligations.PlainReadsEcho : Prop :=
  ∀ (u : UsartId) (cycle : Nat) (s : State),
    exec (.rdCtl u cycle) s = .next { s with rdata := some (s.usart u).ctl } ∧
    exec (.rdTctl u cycle) s = .next { s with rdata := some (s.usart u).tctl } ∧
    exec (.rdRctl u cycle) s = .next { s with rdata := some (s.usart u).rctl } ∧
    exec (.rdMctl u cycle) s = .next { s with rdata := some (s.usart u).mctl } ∧
    exec (.rdBr0 u cycle) s = .next { s with rdata := some (s.usart u).br0 } ∧
    exec (.rdBr1 u cycle) s = .next { s with rdata := some (s.usart u).br1 }

/-- 40_register_file.md R135 (the spec's decision D7): RD.TXBUF returns `x[7]` whether or not a byte is queued, and does nothing else. -/
def Obligations.ReadTxbufEchoes : Prop :=
  ∀ (u : UsartId) (cycle : Nat) (s : State),
    exec (.rdTxbuf u cycle) s = .next { s with rdata := some (s.usart u).txbuf }

/-- 40_register_file.md R134: every RD.RXBUF returns the byte, clears the receive-ready flag and tells an attached listener;
the byte stays, so a second read returns it again and finds the flag clear. -/
def Obligations.ReadRxbufClearsFlag : Prop :=
  ∀ (u : UsartId) (cycle cycle' : Nat) (s : State), ∃ t t',
    exec (.rdRxbuf u cycle) s = .next t ∧
    t.rdata = some (s.usart u).rxbuf ∧
    FlagsCleared (s.cfg.unit u).rxifgMask s t ∧
    t.usart u = { s.usart u with
      notes := (s.usart u).notes ++ (if (s.cfg.unit u).listener then [.receiveFlagCleared] else []) } ∧
    SameElsewhere u s t ∧
    exec (.rdRxbuf u cycle') t = .next t' ∧
    t'.rdata = some (s.usart u).rxbuf ∧
    t'.ifg = t.ifg ∧
    t'.usart u = { t.usart u with
      notes := (t.usart u).notes ++ (if (s.cfg.unit u).listener then [.receiveFlagCleared] else []) } ∧
    SameElsewhere u t t'

/-- 40_register_file.md R136: a bus read whose offset is outside 0 to 7 for both copies is RD.NONE, and RD.NONE returns 0
and changes nothing. -/
def Obligations.UnselectedReadReturnsZero : Prop :=
  (∀ (c : Config) (addr : Nat) (wdata : Byte) (cycle : Nat), c.wf = true → addr < 2 ^ c.addrW →
    (∀ u, ¬(0 ≤ (addr : Int) - ((c.unit u).base : Int) ∧ (addr : Int) - ((c.unit u).base : Int) ≤ 7)) →
    decode c (.bus false addr wdata cycle) = .ok (.rdNone addr cycle)) ∧
  (∀ (addr cycle : Nat) (s : State), exec (.rdNone addr cycle) s = .next { s with rdata := some 0 })

/-- 40_register_file.md R137 (the spec's decision D6): a bus write outside both windows is WR.NONE, which changes nothing. -/
def Obligations.UnselectedWriteIgnored : Prop :=
  (∀ (c : Config) (addr : Nat) (wdata : Byte) (cycle : Nat), c.wf = true → addr < 2 ^ c.addrW →
    (∀ u, ¬(0 ≤ (addr : Int) - ((c.unit u).base : Int) ∧ (addr : Int) - ((c.unit u).base : Int) ≤ 7)) →
    decode c (.bus true addr wdata cycle) = .ok (.wrNone addr wdata cycle)) ∧
  (∀ (addr : Nat) (wdata : Byte) (cycle : Nat) (s : State),
    exec (.wrNone addr wdata cycle) s = .next { s with rdata := none })

/-- 40_register_file.md R120 (the store is the spec's inference from R128): CTL takes the byte and `spi_mode` its tested bit. -/
def Obligations.WriteCtlSetsSpiMode : Prop :=
  ∀ (u : UsartId) (wdata : Byte) (cycle : Nat) (s : State), ∃ t,
    exec (.wrCtl u wdata cycle) s = .next t ∧
    t.usart u = { s.usart u with ctl := wdata, spiMode := decide (wdata &&& (s.cfg.unit u).spiModeMask ≠ 0) } ∧
    t.ifg = s.ifg ∧ t.rdata = none ∧ SameElsewhere u s t

/-- 40_register_file.md R121 (TXEPT read-only to the bus is the spec's decision D4): bit by bit, TCTL takes the written bit
except TXEPT, which keeps its own; `clk_sel` is CLKSEL of the two field bits; the rate is recomputed with it. -/
def Obligations.WriteTctlSelectsClock : Prop :=
  ∀ (u : UsartId) (wdata : Byte) (cycle : Nat) (s : State), ∃ t,
    exec (.wrTctl u wdata cycle) s = .next t ∧
    (∀ b, b < 8 → (t.usart u).tctl.getLsbD b =
      (if (s.cfg.unit u).txeptMask.getLsbD b then (s.usart u).tctl.getLsbD b else wdata.getLsbD b)) ∧
    (t.usart u).clkSel =
      (match wdata.getLsbD ((s.cfg.unit u).sselLsb + 1), wdata.getLsbD (s.cfg.unit u).sselLsb with
       | false, false => (s.cfg.unit u).clksel.code0
       | false, true => (s.cfg.unit u).clksel.code1
       | true, false => (s.cfg.unit u).clksel.code2
       | true, true => (s.cfg.unit u).clksel.code3) ∧
    t.usart u = { s.usart u with tctl := (t.usart u).tctl, clkSel := (t.usart u).clkSel }.recompute s.freqs ∧
    t.ifg = s.ifg ∧ t.rdata = none ∧ SameElsewhere u s t

/-- 40_register_file.md R122, R123 (the stores are the spec's inference from R130, R131): RCTL and MCTL take the byte and
nothing else changes, the rate included. -/
def Obligations.WriteRctlMctlStoreOnly : Prop :=
  ∀ (u : UsartId) (wdata : Byte) (cycle : Nat) (s : State),
    (∃ t, exec (.wrRctl u wdata cycle) s = .next t ∧ t.usart u = { s.usart u with rctl := wdata } ∧
      t.ifg = s.ifg ∧ t.rdata = none ∧ SameElsewhere u s t) ∧
    (∃ t, exec (.wrMctl u wdata cycle) s = .next t ∧ t.usart u = { s.usart u with mctl := wdata } ∧
      t.ifg = s.ifg ∧ t.rdata = none ∧ SameElsewhere u s t)

/-- 40_register_file.md R124, R125: a divisor byte is stored and the rate recomputed with the new byte and the other byte as
it stands; the pending event, the flags and everything else stay. -/
def Obligations.WriteDivisorByteRecomputes : Prop :=
  ∀ (u : UsartId) (wdata : Byte) (cycle : Nat) (s : State),
    (∃ t, exec (.wrBr0 u wdata cycle) s = .next t ∧
      t.usart u = { s.usart u with br0 := wdata }.recompute s.freqs ∧
      (t.usart u).br0 = wdata ∧ (t.usart u).br1 = (s.usart u).br1 ∧ (t.usart u).event = (s.usart u).event ∧
      t.ifg = s.ifg ∧ t.rdata = none ∧ SameElsewhere u s t) ∧
    (∃ t, exec (.wrBr1 u wdata cycle) s = .next t ∧
      t.usart u = { s.usart u with br1 := wdata }.recompute s.freqs ∧
      (t.usart u).br1 = wdata ∧ (t.usart u).br0 = (s.usart u).br0 ∧ (t.usart u).event = (s.usart u).event ∧
      t.ifg = s.ifg ∧ t.rdata = none ∧ SameElsewhere u s t)

/-- 41_baud_clock.md R160, the formula, in numbers: floor divisions of naturals, the two clamps, the secondary reference in
the numerator; nothing but `baud_rate` and `ticks_per_byte` changes. -/
def Obligations.RecomputeFormula : Prop :=
  ∀ (x : Usart) (f : Freqs) (div fSel baud : Nat),
    div = (if x.br0.toNat + 256 * x.br1.toNat = 0 then 1 else x.br0.toNat + 256 * x.br1.toNat) →
    fSel = (if x.clkSel = .A then f.fA else f.fB) →
    baud = (if fSel / div = 0 then 1 else fSel / div) →
    x.recompute f = { x with baudRate := baud, ticksPerByte := (8 * f.fSec) / baud }

/-- 41_baud_clock.md R161: with both divisor bytes 0 the divisor is taken as 1, and the registers keep 0. -/
def Obligations.ZeroDivisorActsAsOne : Prop :=
  ∀ (x : Usart) (f : Freqs), x.br0 = 0 → x.br1 = 0 →
    (x.recompute f).baudRate = ({ x with br0 := 1 }.recompute f).baudRate ∧
    (x.recompute f).ticksPerByte = ({ x with br0 := 1 }.recompute f).ticksPerByte ∧
    (x.recompute f).br0 = 0 ∧ (x.recompute f).br1 = 0

/-- 41_baud_clock.md R162: the quotient is 0 exactly when the selected frequency is below the divisor; then `baud_rate` is 1
and `ticks_per_byte` is `8 * F_SEC`. -/
def Obligations.ZeroBaudRateClampsToOne : Prop :=
  ∀ (x : Usart) (f : Freqs),
    (f.selected x.clkSel / divisor x.br0 x.br1 = 0 ↔ f.selected x.clkSel < divisor x.br0 x.br1) ∧
    (f.selected x.clkSel < divisor x.br0 x.br1 →
      (x.recompute f).baudRate = 1 ∧ (x.recompute f).ticksPerByte = 8 * f.fSec)

/-- Bounds of a recomputation (41_baud_clock.md R164, R165; 10_state.md R41): the divisor is 1 to 65535, the baud rate is at
least 1 and at most the selected frequency or 1, and `ticks_per_byte` is 0 exactly when `baud_rate > 8 * F_SEC`. -/
def Obligations.RecomputeBounds : Prop :=
  ∀ (x : Usart) (f : Freqs),
    1 ≤ divisor x.br0 x.br1 ∧ divisor x.br0 x.br1 ≤ 65535 ∧
    1 ≤ (x.recompute f).baudRate ∧ (x.recompute f).baudRate ≤ max 1 (f.selected x.clkSel) ∧
    ((x.recompute f).ticksPerByte = 0 ↔ 8 * f.fSec < (x.recompute f).baudRate)

/-- 20_memory.md R65, 70_reset_and_hazards.md R262 and R104's SETDIV: between the two writes `baud_rate` and `ticks_per_byte` are
those of the new low and the old high byte; after both they are those of the 16-bit divisor. -/
def Obligations.HalfUpdatedDivisor : Prop :=
  ∀ (u : UsartId) (d : BitVec 16) (cycle : Nat) (s : State), ∃ t t',
    Pseudo.expand s.cfg u (.setDiv d cycle) =
      [.wrBr0 u (BitVec.ofNat 8 (d.toNat % 256)) cycle, .wrBr1 u (BitVec.ofNat 8 (d.toNat / 256)) cycle] ∧
    exec (.wrBr0 u (BitVec.ofNat 8 (d.toNat % 256)) cycle) s = .next t ∧
    exec (.wrBr1 u (BitVec.ofNat 8 (d.toNat / 256)) cycle) t = .next t' ∧
    (t.usart u).baudRate = baudRateOf (s.freqs.selected (s.usart u).clkSel)
      (max 1 (d.toNat % 256 + 256 * (s.usart u).br1.toNat)) ∧
    (t.usart u).ticksPerByte = ticksPerByteOf s.freqs.fSec (baudRateOf (s.freqs.selected (s.usart u).clkSel)
      (max 1 (d.toNat % 256 + 256 * (s.usart u).br1.toNat))) ∧
    (t'.usart u).baudRate = baudRateOf (s.freqs.selected (s.usart u).clkSel) (max 1 d.toNat) ∧
    (t'.usart u).ticksPerByte =
      ticksPerByteOf s.freqs.fSec (baudRateOf (s.freqs.selected (s.usart u).clkSel) (max 1 d.toNat)) ∧
    (t'.usart u).br0.toNat + 256 * (t'.usart u).br1.toNat = d.toNat

/-- 40_register_file.md R126 (the spec's decision D5): a write of RXBUF changes nothing. -/
def Obligations.WriteRxbufIgnored : Prop :=
  ∀ (u : UsartId) (wdata : Byte) (cycle : Nat) (s : State),
    exec (.wrRxbuf u wdata cycle) s = .next { s with rdata := none }

/-- 40_register_file.md R127 (`x[7]` untouched is the spec's decision D7): with the gate false the byte is dropped and one
diagnostic is all that is left of it. -/
def Obligations.GatedOffTxbufWriteDropped : Prop :=
  ∀ (u : UsartId) (wdata : Byte) (cycle : Nat) (s : State),
    (s.usart u).txEnabled = false → ((s.usart u).spiMode = false ∨ (s.usart u).rxEnabled = false) →
    ∃ t, exec (.wrTxbuf u wdata cycle) s = .next t ∧
      t.usart u = { s.usart u with diags := (s.usart u).diags ++ [.txWriteDropped] } ∧
      t.ifg = s.ifg ∧ t.rdata = none ∧ SameElsewhere u s t

/-- 42_transmit_engine.md R175 through an accepted WR.TXBUF: the flag and TXEPT are cleared, the byte is queued, and from
idle alone an event is scheduled at the write's cycle + 3. -/
def Obligations.AcceptedTxbufWriteSubmits : Prop :=
  ∀ (u : UsartId) (wdata : Byte) (cycle : Nat) (s : State),
    ((s.usart u).txEnabled = true ∨ ((s.usart u).spiMode = true ∧ (s.usart u).rxEnabled = true)) →
    ∃ t, exec (.wrTxbuf u wdata cycle) s = .next t ∧
      t.usart u = { s.usart u with
        tctl := (s.usart u).tctl &&& ~~~(s.cfg.unit u).txeptMask
        txbuf := wdata
        txqValid := true
        event := if (s.usart u).txsr = none ∧ (s.usart u).txqValid = false then some (cycle + 3) else (s.usart u).event } ∧
      ((s.usart u).txState = .idle ∨ (s.usart u).txState = .loaded → (t.usart u).txState = .loaded) ∧
      ((s.usart u).txState = .shifting → (t.usart u).txState = .shifting) ∧
      FlagsCleared (s.cfg.unit u).txifgMask s t ∧ t.rdata = none ∧ SameElsewhere u s t

/-- 42_transmit_engine.md R177, last write wins: of two accepted writes with no TICK between them the first leaves nothing;
the state is that of the second byte written at the first one's cycle. -/
def Obligations.LastTxbufWriteWins : Prop :=
  ∀ (u : UsartId) (b1 b2 : Byte) (c1 c2 : Nat) (s : State),
    ((s.usart u).txEnabled = true ∨ ((s.usart u).spiMode = true ∧ (s.usart u).rxEnabled = true)) →
    ∃ t, exec (.wrTxbuf u b1 c1) s = .next t ∧ exec (.wrTxbuf u b2 c2) t = exec (.wrTxbuf u b2 c1) s

/-- 42_transmit_engine.md R180, TICK in each of its four states; the next event counts from the firing cycle. -/
def Obligations.TickMovesTheByte : Prop :=
  ∀ (u : UsartId) (t target : Nat) (s : State), (s.usart u).event = some target → target ≤ t →
    ∃ s', exec (.tick u t) s = .next s' ∧
      ((s.usart u).txsr = none → (s.usart u).txqValid = false →
        s'.usart u = { s.usart u with event := none }) ∧
      ((s.usart u).txsr = none → (s.usart u).txqValid = true →
        s'.usart u = { s.usart u with
          txsr := some (s.usart u).txbuf, txqValid := false, event := some (t + (s.usart u).ticksPerByte + 1) }) ∧
      (∀ b, (s.usart u).txsr = some b → (s.usart u).txqValid = false →
        s'.usart u = { s.usart u with
          tctl := (s.usart u).tctl ||| (s.cfg.unit u).txeptMask
          txsr := none
          event := none
          notes := (s.usart u).notes ++ (if (s.cfg.unit u).listener then [.byteAvailableForTransmit b] else []) }) ∧
      (∀ b, (s.usart u).txsr = some b → (s.usart u).txqValid = true →
        s'.usart u = { s.usart u with
          txsr := some (s.usart u).txbuf
          txqValid := false
          event := some (t + (s.usart u).ticksPerByte + 1)
          notes := (s.usart u).notes ++ (if (s.cfg.unit u).listener then [.byteAvailableForTransmit b] else []) }) ∧
      FlagsSet (s.cfg.unit u).txifgMask s s' ∧ s'.rdata = none ∧ SameElsewhere u s s'

/-- 42_transmit_engine.md R179: a TICK with no event pending, or before its target, is no step. -/
def Obligations.TickBeforeItsTargetRefused : Prop :=
  ∀ (u : UsartId) (t : Nat) (s : State),
    ((s.usart u).event = none ∨ ∃ target, (s.usart u).event = some target ∧ t < target) →
    exec (.tick u t) s = .refused .tickNotDue

/-- 42_transmit_engine.md R181: a due TICK in idle consumes the event and sets the transmit-ready flag, and is a no-op for
the data path. -/
def Obligations.TickInIdleOnlyRaisesFlag : Prop :=
  ∀ (u : UsartId) (t target : Nat) (s : State), (s.usart u).txState = .idle →
    (s.usart u).event = some target → target ≤ t →
    ∃ s', exec (.tick u t) s = .next s' ∧ s'.usart u = { s.usart u with event := none } ∧
      FlagsSet (s.cfg.unit u).txifgMask s s' ∧ s'.rdata = none ∧ SameElsewhere u s s'

/-- 42_transmit_engine.md R182, 43_receive_and_flag_bridge.md R209: what any operation appends to a notification trace. A byte
is told only by the TICK that ends its shift, a cleared flag only by RD.RXBUF, and nothing without a listener. -/
def Obligations.NotificationsComeFromTickAndRxbuf : Prop :=
  ∀ (i : Instr) (s t : State) (u : UsartId), exec i s = .next t →
    (t.usart u).notes = (s.usart u).notes ∨
    ((s.cfg.unit u).listener = true ∧
      ((∃ cycle, i = .rdRxbuf u cycle ∧ (t.usart u).notes = (s.usart u).notes ++ [.receiveFlagCleared]) ∨
       (∃ cycle b, i = .tick u cycle ∧ (s.usart u).txsr = some b ∧
          (t.usart u).notes = (s.usart u).notes ++ [.byteAvailableForTransmit b])))

/-- 42_transmit_engine.md R184 (the spec's inference from R175 and R180), events fired on time: a byte accepted in idle at `T`
is loaded at `T + 3`, told at `T + ticks_per_byte + 4` and not before; the flag is 0 until the load, TXEPT 0 until the end. -/
def Obligations.OneByteTimeline : Prop :=
  ∀ (u : UsartId) (b : Byte) (T : Nat) (s : State), s.cfg.wf = true → (s.usart u).txState = .idle →
    ((s.usart u).txEnabled = true ∨ ((s.usart u).spiMode = true ∧ (s.usart u).rxEnabled = true)) →
    ∃ s1 s2 s3,
      exec (.wrTxbuf u b T) s = .next s1 ∧
      (s1.usart u).event = some (T + 3) ∧ s1.transmitReady u = false ∧ (s1.usart u).txept (s.cfg.unit u) = false ∧
      (s1.usart u).notes = (s.usart u).notes ∧
      exec (.tick u (T + 3)) s1 = .next s2 ∧
      (s2.usart u).txsr = some b ∧ (s2.usart u).event = some (T + (s.usart u).ticksPerByte + 4) ∧
      s2.transmitReady u = true ∧ (s2.usart u).txept (s.cfg.unit u) = false ∧
      (s2.usart u).notes = (s.usart u).notes ∧
      exec (.tick u (T + (s.usart u).ticksPerByte + 4)) s2 = .next s3 ∧
      (s3.usart u).txState = .idle ∧ (s3.usart u).event = none ∧
      s3.transmitReady u = true ∧ (s3.usart u).txept (s.cfg.unit u) = true ∧
      (s3.usart u).notes = (s.usart u).notes ++
        (if (s.cfg.unit u).listener then [.byteAvailableForTransmit b] else [])

/-- 43_receive_and_flag_bridge.md R200, R202, R203: with receive disabled DELIVER changes nothing; enabled, the byte masked to
8 bits and the flag are there at once, whatever `IE` holds; at most one diagnostic is emitted, for any value of the free choice (log 6). -/
def Obligations.DeliverLatchesWhenEnabled : Prop :=
  ∀ (u : UsartId) (b cycle : Nat) (s : State),
    ((s.usart u).rxEnabled = false → exec (.deliver u b cycle) s = .next { s with rdata := none }) ∧
    ((s.usart u).rxEnabled = true →
      ∃ t d, exec (.deliver u b cycle) s = .next t ∧
        (d = [] ∨ d = [Diagnostic.rxIrqEnabled]) ∧
        t.usart u = { s.usart u with
          rxbuf := BitVec.ofNat 8 (b % 256)
          diags := (s.usart u).diags ++ d
          draws := (s.usart u).draws + 1 } ∧
        FlagsSet (s.cfg.unit u).rxifgMask s t ∧ t.rdata = none ∧ SameElsewhere u s t)

/-- 43_receive_and_flag_bridge.md R201 (the spec's inference from R200): of two deliveries before a read the read returns the
second, RCTL records nothing, and the flag is raised once more and then cleared. -/
def Obligations.SecondDeliveryOverwrites : Prop :=
  ∀ (u : UsartId) (b1 b2 c1 c2 c3 : Nat) (s : State), s.cfg.wf = true → (s.usart u).rxEnabled = true →
    ∃ t1 t2 t3,
      exec (.deliver u b1 c1) s = .next t1 ∧ t1.receiveReady u = true ∧
      exec (.deliver u b2 c2) t1 = .next t2 ∧ t2.receiveReady u = true ∧
      (t2.usart u).rctl = (s.usart u).rctl ∧
      exec (.rdRxbuf u c3) t2 = .next t3 ∧
      t3.rdata = some (BitVec.ofNat 8 b2) ∧ t3.receiveReady u = false

/-- 43_receive_and_flag_bridge.md R208 (the ignored bit positions are the spec's decision D13): ENCHG sets the path enable its
bit names and nothing else; any other bit changes nothing. -/
def Obligations.EnableNotificationSetsItsPath : Prop :=
  ∀ (u : UsartId) (bit : Nat) (on : Bool) (s : State), ∃ t, exec (.enchg u bit on) s = .next t ∧
    t.usart u = { s.usart u with
      txEnabled := if bit = (s.cfg.unit u).txEnBit then on else (s.usart u).txEnabled
      rxEnabled := if bit ≠ (s.cfg.unit u).txEnBit ∧ bit = (s.cfg.unit u).rxEnBit then on else (s.usart u).rxEnabled } ∧
    t.ifg = s.ifg ∧ t.rdata = none ∧ SameElsewhere u s t

/-- 70_reset_and_hazards.md R250: what RESET writes; 
R251: everything else, the other bits of `IFG` and the traces included, is left alone. -/
def Obligations.ResetWritesItsListOnly : Prop :=
  ∀ (u : UsartId) (cycle : Nat) (s : State), ∃ t, exec (.reset u cycle) s = .next t ∧
    t.usart u = { s.usart u with
      txqValid := false
      txsr := none
      tctl := (s.usart u).tctl ||| (s.cfg.unit u).txeptMask
      event := some (cycle + (s.cfg.unit u).startupDelay)
      txEnabled := false
      rxEnabled := false } ∧
    (t.usart u).txState = .idle ∧
    FlagsCleared ((s.cfg.unit u).txifgMask ||| (s.cfg.unit u).rxifgMask) s t ∧ t.rdata = none ∧ SameElsewhere u s t

/-- 70_reset_and_hazards.md R252: a second RESET leaves exactly what a single RESET at its own cycle leaves; at one cycle, exactly
the state of one. -/
def Obligations.ResetTwiceIsResetOnce : Prop :=
  ∀ (u : UsartId) (c1 c2 : Nat) (s : State), ∃ t, exec (.reset u c1) s = .next t ∧
    exec (.reset u c2) t = exec (.reset u c2) s ∧ exec (.reset u c1) t = .next t

/-- 60_exceptions.md R228 (the spec's inference), the whole matrix: which operation writes which of the three flags of a copy. -/
def Obligations.FlagMatrix : Prop :=
  ∀ (i : Instr) (s t : State) (u : UsartId), s.cfg.wf = true → exec i s = .next t →
    (t.transmitReady u =
      match i with
      | .wrTxbuf v _ _ => if v = u ∧ (s.usart u).txGate = true then false else s.transmitReady u
      | .tick v _ => if v = u then true else s.transmitReady u
      | .reset v _ => if v = u then false else s.transmitReady u
      | _ => s.transmitReady u) ∧
    (t.receiveReady u =
      match i with
      | .rdRxbuf v _ => if v = u then false else s.receiveReady u
      | .deliver v _ _ => if v = u ∧ (s.usart u).rxEnabled = true then true else s.receiveReady u
      | .reset v _ => if v = u then false else s.receiveReady u
      | _ => s.receiveReady u) ∧
    ((t.usart u).txept (s.cfg.unit u) =
      match i with
      | .wrTxbuf v _ _ =>
        if v = u ∧ (s.usart u).txGate = true then false else (s.usart u).txept (s.cfg.unit u)
      | .tick v _ =>
        if v = u ∧ (s.usart u).txState = .shifting ∧ (s.usart u).txqValid = false then true
        else (s.usart u).txept (s.cfg.unit u)
      | .reset v _ => if v = u then true else (s.usart u).txept (s.cfg.unit u)
      | _ => (s.usart u).txept (s.cfg.unit u))

/-- 10_state.md R20 to R29, whole-machine: the only operation that can change each register of a copy; TXEPT apart, TCTL is
changed by WR.TCTL alone. -/
def Obligations.RegistersChangeOnlyByTheirOperation : Prop :=
  ∀ (i : Instr) (s t : State) (u : UsartId), exec i s = .next t →
    ((t.usart u).ctl ≠ (s.usart u).ctl → ∃ w c, i = .wrCtl u w c) ∧
    ((t.usart u).tctl &&& ~~~(s.cfg.unit u).txeptMask ≠ (s.usart u).tctl &&& ~~~(s.cfg.unit u).txeptMask →
      ∃ w c, i = .wrTctl u w c) ∧
    ((t.usart u).rctl ≠ (s.usart u).rctl → ∃ w c, i = .wrRctl u w c) ∧
    ((t.usart u).mctl ≠ (s.usart u).mctl → ∃ w c, i = .wrMctl u w c) ∧
    ((t.usart u).br0 ≠ (s.usart u).br0 → ∃ w c, i = .wrBr0 u w c) ∧
    ((t.usart u).br1 ≠ (s.usart u).br1 → ∃ w c, i = .wrBr1 u w c) ∧
    ((t.usart u).rxbuf ≠ (s.usart u).rxbuf → (s.usart u).rxEnabled = true ∧ ∃ b c, i = .deliver u b c) ∧
    ((t.usart u).txbuf ≠ (s.usart u).txbuf → (s.usart u).txGate = true ∧ ∃ w c, i = .wrTxbuf u w c)

/-- 41_baud_clock.md R160, R166; 10_state.md R40 to R43: the rate changes only under the three recomputing writes, `clk_sel` only
under WR.TCTL, `spi_mode` only under WR.CTL, the path enables only under ENCHG and RESET. -/
def Obligations.ConfigurationChangesOnlyByItsOperations : Prop :=
  ∀ (i : Instr) (s t : State) (u : UsartId), exec i s = .next t →
    ((t.usart u).baudRate ≠ (s.usart u).baudRate ∨ (t.usart u).ticksPerByte ≠ (s.usart u).ticksPerByte →
      ∃ w c, i = .wrTctl u w c ∨ i = .wrBr0 u w c ∨ i = .wrBr1 u w c) ∧
    ((t.usart u).clkSel ≠ (s.usart u).clkSel → ∃ w c, i = .wrTctl u w c) ∧
    ((t.usart u).spiMode ≠ (s.usart u).spiMode → ∃ w c, i = .wrCtl u w c) ∧
    ((t.usart u).txEnabled ≠ (s.usart u).txEnabled →
      (∃ on, i = .enchg u (s.cfg.unit u).txEnBit on) ∨ ∃ c, i = .reset u c) ∧
    ((t.usart u).rxEnabled ≠ (s.usart u).rxEnabled →
      (∃ on, i = .enchg u (s.cfg.unit u).rxEnBit on) ∨ ∃ c, i = .reset u c)

/-- 42_transmit_engine.md R183, last row, R187: nothing but an accepted WR.TXBUF, TICK and RESET of the copy moves its
transmitter; in particular disabling the path and changing the rate do not. -/
def Obligations.EngineMovedByThreeOperations : Prop :=
  ∀ (i : Instr) (s t : State) (u : UsartId), exec i s = .next t →
    ((t.usart u).txsr ≠ (s.usart u).txsr ∨ (t.usart u).txqValid ≠ (s.usart u).txqValid ∨
      (t.usart u).event ≠ (s.usart u).event ∨ (t.usart u).txState ≠ (s.usart u).txState) →
    ((s.usart u).txGate = true ∧ ∃ w c, i = .wrTxbuf u w c) ∨ (∃ c, i = .tick u c) ∨ (∃ c, i = .reset u c)

/-- 43_receive_and_flag_bridge.md R211, 00_scope.md R10: an operation of one copy changes nothing of the other, no flag of
the other, and nothing of the host's but the flags. -/
def Obligations.CopiesAreIsolated : Prop :=
  ∀ (i : Instr) (s t : State) (v : UsartId), s.cfg.wf = true → exec i s = .next t → targetOf i ≠ some v →
    t.usart v = s.usart v ∧
    (∀ b, ((s.cfg.unit v).txifgMask ||| (s.cfg.unit v).rxifgMask).testBit b = true →
      t.ifg.testBit b = s.ifg.testBit b) ∧
    t.cfg = s.cfg ∧ t.ie = s.ie ∧ t.freqs = s.freqs ∧ t.cycle = s.cycle ∧ t.inputs = s.inputs

/-- 60_exceptions.md R239 (the spec's inference): two operations that do not address one copy, an unselected access addressing
none, commute, what the last of them returned apart. -/
def Obligations.OperationsOfCopiesCommute : Prop :=
  ∀ (i j : Instr) (s s1 s2 : State), s.cfg.wf = true → (∀ u, ¬(targetOf i = some u ∧ targetOf j = some u)) →
    exec i s = .next s1 → exec j s = .next s2 →
    ∃ s12 s21, exec j s1 = .next s12 ∧ exec i s2 = .next s21 ∧ s12.withoutAnswer = s21.withoutAnswer

/-- 10_state.md R48: no operation reads `IFG`; whatever the host left in it, everything else comes out the same. -/
def Obligations.FlagRegisterIsNeverRead : Prop :=
  ∀ (i : Instr) (s t : State) (v : Nat), exec i s = .next t →
    ∃ t', exec i { s with ifg := v } = .next t' ∧ { t' with ifg := t.ifg } = t

/-- 10_state.md R48, 43_receive_and_flag_bridge.md R203: `IE` is read for nothing but a diagnostic; whatever the host left in
it, everything but `IE` itself and the diagnostic traces comes out the same, the notification traces included. -/
def Obligations.EnableRegisterOnlyChoosesADiagnostic : Prop :=
  ∀ (i : Instr) (s t : State) (v : Nat), exec i s = .next t →
    ∃ t', exec i { s with ie := v } = .next t' ∧ { t'.withoutDiagnostics with ie := s.ie } = t.withoutDiagnostics

/-- 10_state.md R47: a step only appends to the traces. -/
def Obligations.TracesOnlyGrow : Prop :=
  ∀ (s t : State) (u : UsartId), step s = .next t →
    (s.usart u).notes <+: (t.usart u).notes ∧ (s.usart u).diags <+: (t.usart u).diags

/-- 10_state.md R47: no operation reads a trace; states equal but for their traces stay so. -/
def Obligations.TracesAreNeverRead : Prop :=
  ∀ (i : Instr) (s s' t : State), s.withoutTraces = s'.withoutTraces → exec i s = .next t →
    ∃ t', exec i s' = .next t' ∧ t.withoutTraces = t'.withoutTraces

/-- 10_state.md R49, 20_memory.md R73: along steps the stamps do not decrease (the model's counter, log 5), and the parameters stay. -/
def Obligations.CounterNeverDecreases : Prop :=
  ∀ s t : State, step s = .next t → s.cycle ≤ t.cycle ∧ t.cfg = s.cfg

/-- The frame over the block's address space (20_memory.md R62, R69): a bus write changes the byte at its own address alone,
except that an accepted TXBUF write also clears TXEPT in TCTL (R175); every register's own byte after its write (TXEPT kept by
a write of TCTL is the spec's D4, R121); a bus read changes no byte. -/
def Obligations.BusWriteTouchesItsByte : Prop :=
  ∀ (u : UsartId) (sl : Slot) (wdata : Byte) (cycle : Nat) (s : State), s.cfg.wf = true →
    (∃ t, exec (writeInstr u wdata cycle sl) s = .next t ∧
      (∀ a, a ≠ s.cfg.addrOf u sl → (sl = .txbuf → (s.usart u).txGate = true → a ≠ s.cfg.addrOf u .tctl) →
        t.busByte a = s.busByte a) ∧
      (sl ≠ .tctl → sl ≠ .rxbuf → sl ≠ .txbuf → t.busByte (s.cfg.addrOf u sl) = wdata) ∧
      (sl = .tctl → t.busByte (s.cfg.addrOf u sl) =
        (wdata &&& ~~~(s.cfg.unit u).txeptMask) ||| (s.busByte (s.cfg.addrOf u sl) &&& (s.cfg.unit u).txeptMask)) ∧
      (sl = .rxbuf → t.busByte (s.cfg.addrOf u sl) = s.busByte (s.cfg.addrOf u sl)) ∧
      (sl = .txbuf → t.busByte (s.cfg.addrOf u sl) =
        if (s.usart u).txGate = true then wdata else s.busByte (s.cfg.addrOf u sl)) ∧
      (sl = .txbuf → (s.usart u).txGate = true → t.busByte (s.cfg.addrOf u .tctl) =
        s.busByte (s.cfg.addrOf u .tctl) &&& ~~~(s.cfg.unit u).txeptMask)) ∧
    (∃ t, exec (readInstr u cycle sl) s = .next t ∧ t.rdata = some (s.busByte (s.cfg.addrOf u sl)) ∧
      ∀ a, t.busByte a = s.busByte a)
end

