-- ==== Sys2Proof/Laws/State.lean ====
section
/-! SUPPORT. One lemma per field per update of the state, so that no proof unfolds an update. -/

namespace Sys2Proof.Machine

/-! ## Updates of one copy -/

@[simp] theorem Usart.ctl_sched (x : Usart) (n : Nat) : (x.sched n).ctl = x.ctl := rfl
@[simp] theorem Usart.tctl_sched (x : Usart) (n : Nat) : (x.sched n).tctl = x.tctl := rfl
@[simp] theorem Usart.rctl_sched (x : Usart) (n : Nat) : (x.sched n).rctl = x.rctl := rfl
@[simp] theorem Usart.mctl_sched (x : Usart) (n : Nat) : (x.sched n).mctl = x.mctl := rfl
@[simp] theorem Usart.br0_sched (x : Usart) (n : Nat) : (x.sched n).br0 = x.br0 := rfl
@[simp] theorem Usart.br1_sched (x : Usart) (n : Nat) : (x.sched n).br1 = x.br1 := rfl
@[simp] theorem Usart.rxbuf_sched (x : Usart) (n : Nat) : (x.sched n).rxbuf = x.rxbuf := rfl
@[simp] theorem Usart.txbuf_sched (x : Usart) (n : Nat) : (x.sched n).txbuf = x.txbuf := rfl
@[simp] theorem Usart.txqValid_sched (x : Usart) (n : Nat) : (x.sched n).txqValid = x.txqValid := rfl
@[simp] theorem Usart.txsr_sched (x : Usart) (n : Nat) : (x.sched n).txsr = x.txsr := rfl
@[simp] theorem Usart.event_sched (x : Usart) (n : Nat) : (x.sched n).event = some n := rfl
@[simp] theorem Usart.spiMode_sched (x : Usart) (n : Nat) : (x.sched n).spiMode = x.spiMode := rfl
@[simp] theorem Usart.clkSel_sched (x : Usart) (n : Nat) : (x.sched n).clkSel = x.clkSel := rfl
@[simp] theorem Usart.baudRate_sched (x : Usart) (n : Nat) : (x.sched n).baudRate = x.baudRate := rfl
@[simp] theorem Usart.ticksPerByte_sched (x : Usart) (n : Nat) : (x.sched n).ticksPerByte = x.ticksPerByte := rfl
@[simp] theorem Usart.txEnabled_sched (x : Usart) (n : Nat) : (x.sched n).txEnabled = x.txEnabled := rfl
@[simp] theorem Usart.rxEnabled_sched (x : Usart) (n : Nat) : (x.sched n).rxEnabled = x.rxEnabled := rfl
@[simp] theorem Usart.notes_sched (x : Usart) (n : Nat) : (x.sched n).notes = x.notes := rfl
@[simp] theorem Usart.diags_sched (x : Usart) (n : Nat) : (x.sched n).diags = x.diags := rfl
@[simp] theorem Usart.draws_sched (x : Usart) (n : Nat) : (x.sched n).draws = x.draws := rfl

@[simp] theorem Usart.ctl_unsched (x : Usart) : (x.unsched).ctl = x.ctl := rfl
@[simp] theorem Usart.tctl_unsched (x : Usart) : (x.unsched).tctl = x.tctl := rfl
@[simp] theorem Usart.rctl_unsched (x : Usart) : (x.unsched).rctl = x.rctl := rfl
@[simp] theorem Usart.mctl_unsched (x : Usart) : (x.unsched).mctl = x.mctl := rfl
@[simp] theorem Usart.br0_unsched (x : Usart) : (x.unsched).br0 = x.br0 := rfl
@[simp] theorem Usart.br1_unsched (x : Usart) : (x.unsched).br1 = x.br1 := rfl
@[simp] theorem Usart.rxbuf_unsched (x : Usart) : (x.unsched).rxbuf = x.rxbuf := rfl
@[simp] theorem Usart.txbuf_unsched (x : Usart) : (x.unsched).txbuf = x.txbuf := rfl
@[simp] theorem Usart.txqValid_unsched (x : Usart) : (x.unsched).txqValid = x.txqValid := rfl
@[simp] theorem Usart.txsr_unsched (x : Usart) : (x.unsched).txsr = x.txsr := rfl
@[simp] theorem Usart.event_unsched (x : Usart) : (x.unsched).event = none := rfl
@[simp] theorem Usart.spiMode_unsched (x : Usart) : (x.unsched).spiMode = x.spiMode := rfl
@[simp] theorem Usart.clkSel_unsched (x : Usart) : (x.unsched).clkSel = x.clkSel := rfl
@[simp] theorem Usart.baudRate_unsched (x : Usart) : (x.unsched).baudRate = x.baudRate := rfl
@[simp] theorem Usart.ticksPerByte_unsched (x : Usart) : (x.unsched).ticksPerByte = x.ticksPerByte := rfl
@[simp] theorem Usart.txEnabled_unsched (x : Usart) : (x.unsched).txEnabled = x.txEnabled := rfl
@[simp] theorem Usart.rxEnabled_unsched (x : Usart) : (x.unsched).rxEnabled = x.rxEnabled := rfl
@[simp] theorem Usart.notes_unsched (x : Usart) : (x.unsched).notes = x.notes := rfl
@[simp] theorem Usart.diags_unsched (x : Usart) : (x.unsched).diags = x.diags := rfl
@[simp] theorem Usart.draws_unsched (x : Usart) : (x.unsched).draws = x.draws := rfl

@[simp] theorem Usart.ctl_diag (x : Usart) (k : Diagnostic) : (x.diag k).ctl = x.ctl := rfl
@[simp] theorem Usart.tctl_diag (x : Usart) (k : Diagnostic) : (x.diag k).tctl = x.tctl := rfl
@[simp] theorem Usart.rctl_diag (x : Usart) (k : Diagnostic) : (x.diag k).rctl = x.rctl := rfl
@[simp] theorem Usart.mctl_diag (x : Usart) (k : Diagnostic) : (x.diag k).mctl = x.mctl := rfl
@[simp] theorem Usart.br0_diag (x : Usart) (k : Diagnostic) : (x.diag k).br0 = x.br0 := rfl
@[simp] theorem Usart.br1_diag (x : Usart) (k : Diagnostic) : (x.diag k).br1 = x.br1 := rfl
@[simp] theorem Usart.rxbuf_diag (x : Usart) (k : Diagnostic) : (x.diag k).rxbuf = x.rxbuf := rfl
@[simp] theorem Usart.txbuf_diag (x : Usart) (k : Diagnostic) : (x.diag k).txbuf = x.txbuf := rfl
@[simp] theorem Usart.txqValid_diag (x : Usart) (k : Diagnostic) : (x.diag k).txqValid = x.txqValid := rfl
@[simp] theorem Usart.txsr_diag (x : Usart) (k : Diagnostic) : (x.diag k).txsr = x.txsr := rfl
@[simp] theorem Usart.event_diag (x : Usart) (k : Diagnostic) : (x.diag k).event = x.event := rfl
@[simp] theorem Usart.spiMode_diag (x : Usart) (k : Diagnostic) : (x.diag k).spiMode = x.spiMode := rfl
@[simp] theorem Usart.clkSel_diag (x : Usart) (k : Diagnostic) : (x.diag k).clkSel = x.clkSel := rfl
@[simp] theorem Usart.baudRate_diag (x : Usart) (k : Diagnostic) : (x.diag k).baudRate = x.baudRate := rfl
@[simp] theorem Usart.ticksPerByte_diag (x : Usart) (k : Diagnostic) : (x.diag k).ticksPerByte = x.ticksPerByte := rfl
@[simp] theorem Usart.txEnabled_diag (x : Usart) (k : Diagnostic) : (x.diag k).txEnabled = x.txEnabled := rfl
@[simp] theorem Usart.rxEnabled_diag (x : Usart) (k : Diagnostic) : (x.diag k).rxEnabled = x.rxEnabled := rfl
@[simp] theorem Usart.notes_diag (x : Usart) (k : Diagnostic) : (x.diag k).notes = x.notes := rfl
@[simp] theorem Usart.diags_diag (x : Usart) (k : Diagnostic) : (x.diag k).diags = x.diags ++ [k] := rfl
@[simp] theorem Usart.draws_diag (x : Usart) (k : Diagnostic) : (x.diag k).draws = x.draws := rfl

@[simp] theorem Usart.ctl_setTxept (x : Usart) (c : UnitConfig) : (x.setTxept c).ctl = x.ctl := rfl
@[simp] theorem Usart.tctl_setTxept (x : Usart) (c : UnitConfig) : (x.setTxept c).tctl = x.tctl ||| c.txeptMask := rfl
@[simp] theorem Usart.rctl_setTxept (x : Usart) (c : UnitConfig) : (x.setTxept c).rctl = x.rctl := rfl
@[simp] theorem Usart.mctl_setTxept (x : Usart) (c : UnitConfig) : (x.setTxept c).mctl = x.mctl := rfl
@[simp] theorem Usart.br0_setTxept (x : Usart) (c : UnitConfig) : (x.setTxept c).br0 = x.br0 := rfl
@[simp] theorem Usart.br1_setTxept (x : Usart) (c : UnitConfig) : (x.setTxept c).br1 = x.br1 := rfl
@[simp] theorem Usart.rxbuf_setTxept (x : Usart) (c : UnitConfig) : (x.setTxept c).rxbuf = x.rxbuf := rfl
@[simp] theorem Usart.txbuf_setTxept (x : Usart) (c : UnitConfig) : (x.setTxept c).txbuf = x.txbuf := rfl
@[simp] theorem Usart.txqValid_setTxept (x : Usart) (c : UnitConfig) : (x.setTxept c).txqValid = x.txqValid := rfl
@[simp] theorem Usart.txsr_setTxept (x : Usart) (c : UnitConfig) : (x.setTxept c).txsr = x.txsr := rfl
@[simp] theorem Usart.event_setTxept (x : Usart) (c : UnitConfig) : (x.setTxept c).event = x.event := rfl
@[simp] theorem Usart.spiMode_setTxept (x : Usart) (c : UnitConfig) : (x.setTxept c).spiMode = x.spiMode := rfl
@[simp] theorem Usart.clkSel_setTxept (x : Usart) (c : UnitConfig) : (x.setTxept c).clkSel = x.clkSel := rfl
@[simp] theorem Usart.baudRate_setTxept (x : Usart) (c : UnitConfig) : (x.setTxept c).baudRate = x.baudRate := rfl
@[simp] theorem Usart.ticksPerByte_setTxept (x : Usart) (c : UnitConfig) : (x.setTxept c).ticksPerByte = x.ticksPerByte := rfl
@[simp] theorem Usart.txEnabled_setTxept (x : Usart) (c : UnitConfig) : (x.setTxept c).txEnabled = x.txEnabled := rfl
@[simp] theorem Usart.rxEnabled_setTxept (x : Usart) (c : UnitConfig) : (x.setTxept c).rxEnabled = x.rxEnabled := rfl
@[simp] theorem Usart.notes_setTxept (x : Usart) (c : UnitConfig) : (x.setTxept c).notes = x.notes := rfl
@[simp] theorem Usart.diags_setTxept (x : Usart) (c : UnitConfig) : (x.setTxept c).diags = x.diags := rfl
@[simp] theorem Usart.draws_setTxept (x : Usart) (c : UnitConfig) : (x.setTxept c).draws = x.draws := rfl

@[simp] theorem Usart.ctl_clearTxept (x : Usart) (c : UnitConfig) : (x.clearTxept c).ctl = x.ctl := rfl
@[simp] theorem Usart.tctl_clearTxept (x : Usart) (c : UnitConfig) : (x.clearTxept c).tctl = x.tctl &&& ~~~c.txeptMask := rfl
@[simp] theorem Usart.rctl_clearTxept (x : Usart) (c : UnitConfig) : (x.clearTxept c).rctl = x.rctl := rfl
@[simp] theorem Usart.mctl_clearTxept (x : Usart) (c : UnitConfig) : (x.clearTxept c).mctl = x.mctl := rfl
@[simp] theorem Usart.br0_clearTxept (x : Usart) (c : UnitConfig) : (x.clearTxept c).br0 = x.br0 := rfl
@[simp] theorem Usart.br1_clearTxept (x : Usart) (c : UnitConfig) : (x.clearTxept c).br1 = x.br1 := rfl
@[simp] theorem Usart.rxbuf_clearTxept (x : Usart) (c : UnitConfig) : (x.clearTxept c).rxbuf = x.rxbuf := rfl
@[simp] theorem Usart.txbuf_clearTxept (x : Usart) (c : UnitConfig) : (x.clearTxept c).txbuf = x.txbuf := rfl
@[simp] theorem Usart.txqValid_clearTxept (x : Usart) (c : UnitConfig) : (x.clearTxept c).txqValid = x.txqValid := rfl
@[simp] theorem Usart.txsr_clearTxept (x : Usart) (c : UnitConfig) : (x.clearTxept c).txsr = x.txsr := rfl
@[simp] theorem Usart.event_clearTxept (x : Usart) (c : UnitConfig) : (x.clearTxept c).event = x.event := rfl
@[simp] theorem Usart.spiMode_clearTxept (x : Usart) (c : UnitConfig) : (x.clearTxept c).spiMode = x.spiMode := rfl
@[simp] theorem Usart.clkSel_clearTxept (x : Usart) (c : UnitConfig) : (x.clearTxept c).clkSel = x.clkSel := rfl
@[simp] theorem Usart.baudRate_clearTxept (x : Usart) (c : UnitConfig) : (x.clearTxept c).baudRate = x.baudRate := rfl
@[simp] theorem Usart.ticksPerByte_clearTxept (x : Usart) (c : UnitConfig) : (x.clearTxept c).ticksPerByte = x.ticksPerByte := rfl
@[simp] theorem Usart.txEnabled_clearTxept (x : Usart) (c : UnitConfig) : (x.clearTxept c).txEnabled = x.txEnabled := rfl
@[simp] theorem Usart.rxEnabled_clearTxept (x : Usart) (c : UnitConfig) : (x.clearTxept c).rxEnabled = x.rxEnabled := rfl
@[simp] theorem Usart.notes_clearTxept (x : Usart) (c : UnitConfig) : (x.clearTxept c).notes = x.notes := rfl
@[simp] theorem Usart.diags_clearTxept (x : Usart) (c : UnitConfig) : (x.clearTxept c).diags = x.diags := rfl
@[simp] theorem Usart.draws_clearTxept (x : Usart) (c : UnitConfig) : (x.clearTxept c).draws = x.draws := rfl

@[simp] theorem Usart.ctl_recompute (x : Usart) (f : Freqs) : (x.recompute f).ctl = x.ctl := rfl
@[simp] theorem Usart.tctl_recompute (x : Usart) (f : Freqs) : (x.recompute f).tctl = x.tctl := rfl
@[simp] theorem Usart.rctl_recompute (x : Usart) (f : Freqs) : (x.recompute f).rctl = x.rctl := rfl
@[simp] theorem Usart.mctl_recompute (x : Usart) (f : Freqs) : (x.recompute f).mctl = x.mctl := rfl
@[simp] theorem Usart.br0_recompute (x : Usart) (f : Freqs) : (x.recompute f).br0 = x.br0 := rfl
@[simp] theorem Usart.br1_recompute (x : Usart) (f : Freqs) : (x.recompute f).br1 = x.br1 := rfl
@[simp] theorem Usart.rxbuf_recompute (x : Usart) (f : Freqs) : (x.recompute f).rxbuf = x.rxbuf := rfl
@[simp] theorem Usart.txbuf_recompute (x : Usart) (f : Freqs) : (x.recompute f).txbuf = x.txbuf := rfl
@[simp] theorem Usart.txqValid_recompute (x : Usart) (f : Freqs) : (x.recompute f).txqValid = x.txqValid := rfl
@[simp] theorem Usart.txsr_recompute (x : Usart) (f : Freqs) : (x.recompute f).txsr = x.txsr := rfl
@[simp] theorem Usart.event_recompute (x : Usart) (f : Freqs) : (x.recompute f).event = x.event := rfl
@[simp] theorem Usart.spiMode_recompute (x : Usart) (f : Freqs) : (x.recompute f).spiMode = x.spiMode := rfl
@[simp] theorem Usart.clkSel_recompute (x : Usart) (f : Freqs) : (x.recompute f).clkSel = x.clkSel := rfl
@[simp] theorem Usart.baudRate_recompute (x : Usart) (f : Freqs) : (x.recompute f).baudRate = baudRateOf (f.selected x.clkSel) (divisor x.br0 x.br1) := rfl
@[simp] theorem Usart.ticksPerByte_recompute (x : Usart) (f : Freqs) : (x.recompute f).ticksPerByte = ticksPerByteOf f.fSec (baudRateOf (f.selected x.clkSel) (divisor x.br0 x.br1)) := rfl
@[simp] theorem Usart.txEnabled_recompute (x : Usart) (f : Freqs) : (x.recompute f).txEnabled = x.txEnabled := rfl
@[simp] theorem Usart.rxEnabled_recompute (x : Usart) (f : Freqs) : (x.recompute f).rxEnabled = x.rxEnabled := rfl
@[simp] theorem Usart.notes_recompute (x : Usart) (f : Freqs) : (x.recompute f).notes = x.notes := rfl
@[simp] theorem Usart.diags_recompute (x : Usart) (f : Freqs) : (x.recompute f).diags = x.diags := rfl
@[simp] theorem Usart.draws_recompute (x : Usart) (f : Freqs) : (x.recompute f).draws = x.draws := rfl

@[simp] theorem Usart.ctl_resetAt (x : Usart) (c : UnitConfig) (n : Nat) : (x.resetAt c n).ctl = x.ctl := rfl
@[simp] theorem Usart.tctl_resetAt (x : Usart) (c : UnitConfig) (n : Nat) : (x.resetAt c n).tctl = x.tctl ||| c.txeptMask := rfl
@[simp] theorem Usart.rctl_resetAt (x : Usart) (c : UnitConfig) (n : Nat) : (x.resetAt c n).rctl = x.rctl := rfl
@[simp] theorem Usart.mctl_resetAt (x : Usart) (c : UnitConfig) (n : Nat) : (x.resetAt c n).mctl = x.mctl := rfl
@[simp] theorem Usart.br0_resetAt (x : Usart) (c : UnitConfig) (n : Nat) : (x.resetAt c n).br0 = x.br0 := rfl
@[simp] theorem Usart.br1_resetAt (x : Usart) (c : UnitConfig) (n : Nat) : (x.resetAt c n).br1 = x.br1 := rfl
@[simp] theorem Usart.rxbuf_resetAt (x : Usart) (c : UnitConfig) (n : Nat) : (x.resetAt c n).rxbuf = x.rxbuf := rfl
@[simp] theorem Usart.txbuf_resetAt (x : Usart) (c : UnitConfig) (n : Nat) : (x.resetAt c n).txbuf = x.txbuf := rfl
@[simp] theorem Usart.txqValid_resetAt (x : Usart) (c : UnitConfig) (n : Nat) : (x.resetAt c n).txqValid = false := rfl
@[simp] theorem Usart.txsr_resetAt (x : Usart) (c : UnitConfig) (n : Nat) : (x.resetAt c n).txsr = none := rfl
@[simp] theorem Usart.event_resetAt (x : Usart) (c : UnitConfig) (n : Nat) : (x.resetAt c n).event = some (n + c.startupDelay) := rfl
@[simp] theorem Usart.spiMode_resetAt (x : Usart) (c : UnitConfig) (n : Nat) : (x.resetAt c n).spiMode = x.spiMode := rfl
@[simp] theorem Usart.clkSel_resetAt (x : Usart) (c : UnitConfig) (n : Nat) : (x.resetAt c n).clkSel = x.clkSel := rfl
@[simp] theorem Usart.baudRate_resetAt (x : Usart) (c : UnitConfig) (n : Nat) : (x.resetAt c n).baudRate = x.baudRate := rfl
@[simp] theorem Usart.ticksPerByte_resetAt (x : Usart) (c : UnitConfig) (n : Nat) : (x.resetAt c n).ticksPerByte = x.ticksPerByte := rfl
@[simp] theorem Usart.txEnabled_resetAt (x : Usart) (c : UnitConfig) (n : Nat) : (x.resetAt c n).txEnabled = false := rfl
@[simp] theorem Usart.rxEnabled_resetAt (x : Usart) (c : UnitConfig) (n : Nat) : (x.resetAt c n).rxEnabled = false := rfl
@[simp] theorem Usart.notes_resetAt (x : Usart) (c : UnitConfig) (n : Nat) : (x.resetAt c n).notes = x.notes := rfl
@[simp] theorem Usart.diags_resetAt (x : Usart) (c : UnitConfig) (n : Nat) : (x.resetAt c n).diags = x.diags := rfl
@[simp] theorem Usart.draws_resetAt (x : Usart) (c : UnitConfig) (n : Nat) : (x.resetAt c n).draws = x.draws := rfl

@[simp] theorem Usart.ctl_rxDiagnostic (x : Usart) (u : UsartId) (e : Bool) : (x.rxDiagnostic u e).ctl = x.ctl := rfl
@[simp] theorem Usart.tctl_rxDiagnostic (x : Usart) (u : UsartId) (e : Bool) : (x.rxDiagnostic u e).tctl = x.tctl := rfl
@[simp] theorem Usart.rctl_rxDiagnostic (x : Usart) (u : UsartId) (e : Bool) : (x.rxDiagnostic u e).rctl = x.rctl := rfl
@[simp] theorem Usart.mctl_rxDiagnostic (x : Usart) (u : UsartId) (e : Bool) : (x.rxDiagnostic u e).mctl = x.mctl := rfl
@[simp] theorem Usart.br0_rxDiagnostic (x : Usart) (u : UsartId) (e : Bool) : (x.rxDiagnostic u e).br0 = x.br0 := rfl
@[simp] theorem Usart.br1_rxDiagnostic (x : Usart) (u : UsartId) (e : Bool) : (x.rxDiagnostic u e).br1 = x.br1 := rfl
@[simp] theorem Usart.rxbuf_rxDiagnostic (x : Usart) (u : UsartId) (e : Bool) : (x.rxDiagnostic u e).rxbuf = x.rxbuf := rfl
@[simp] theorem Usart.txbuf_rxDiagnostic (x : Usart) (u : UsartId) (e : Bool) : (x.rxDiagnostic u e).txbuf = x.txbuf := rfl
@[simp] theorem Usart.txqValid_rxDiagnostic (x : Usart) (u : UsartId) (e : Bool) : (x.rxDiagnostic u e).txqValid = x.txqValid := rfl
@[simp] theorem Usart.txsr_rxDiagnostic (x : Usart) (u : UsartId) (e : Bool) : (x.rxDiagnostic u e).txsr = x.txsr := rfl
@[simp] theorem Usart.event_rxDiagnostic (x : Usart) (u : UsartId) (e : Bool) : (x.rxDiagnostic u e).event = x.event := rfl
@[simp] theorem Usart.spiMode_rxDiagnostic (x : Usart) (u : UsartId) (e : Bool) : (x.rxDiagnostic u e).spiMode = x.spiMode := rfl
@[simp] theorem Usart.clkSel_rxDiagnostic (x : Usart) (u : UsartId) (e : Bool) : (x.rxDiagnostic u e).clkSel = x.clkSel := rfl
@[simp] theorem Usart.baudRate_rxDiagnostic (x : Usart) (u : UsartId) (e : Bool) : (x.rxDiagnostic u e).baudRate = x.baudRate := rfl
@[simp] theorem Usart.ticksPerByte_rxDiagnostic (x : Usart) (u : UsartId) (e : Bool) : (x.rxDiagnostic u e).ticksPerByte = x.ticksPerByte := rfl
@[simp] theorem Usart.txEnabled_rxDiagnostic (x : Usart) (u : UsartId) (e : Bool) : (x.rxDiagnostic u e).txEnabled = x.txEnabled := rfl
@[simp] theorem Usart.rxEnabled_rxDiagnostic (x : Usart) (u : UsartId) (e : Bool) : (x.rxDiagnostic u e).rxEnabled = x.rxEnabled := rfl
@[simp] theorem Usart.notes_rxDiagnostic (x : Usart) (u : UsartId) (e : Bool) : (x.rxDiagnostic u e).notes = x.notes := rfl
@[simp] theorem Usart.diags_rxDiagnostic (x : Usart) (u : UsartId) (e : Bool) : (x.rxDiagnostic u e).diags = x.diags ++ (if Config.rxDiagnosticEmitted u x.draws e then [.rxIrqEnabled] else []) := rfl
@[simp] theorem Usart.draws_rxDiagnostic (x : Usart) (u : UsartId) (e : Bool) : (x.rxDiagnostic u e).draws = x.draws + 1 := rfl

@[simp] theorem Usart.ctl_withoutTraces (x : Usart) : (x.withoutTraces).ctl = x.ctl := rfl
@[simp] theorem Usart.tctl_withoutTraces (x : Usart) : (x.withoutTraces).tctl = x.tctl := rfl
@[simp] theorem Usart.rctl_withoutTraces (x : Usart) : (x.withoutTraces).rctl = x.rctl := rfl
@[simp] theorem Usart.mctl_withoutTraces (x : Usart) : (x.withoutTraces).mctl = x.mctl := rfl
@[simp] theorem Usart.br0_withoutTraces (x : Usart) : (x.withoutTraces).br0 = x.br0 := rfl
@[simp] theorem Usart.br1_withoutTraces (x : Usart) : (x.withoutTraces).br1 = x.br1 := rfl
@[simp] theorem Usart.rxbuf_withoutTraces (x : Usart) : (x.withoutTraces).rxbuf = x.rxbuf := rfl
@[simp] theorem Usart.txbuf_withoutTraces (x : Usart) : (x.withoutTraces).txbuf = x.txbuf := rfl
@[simp] theorem Usart.txqValid_withoutTraces (x : Usart) : (x.withoutTraces).txqValid = x.txqValid := rfl
@[simp] theorem Usart.txsr_withoutTraces (x : Usart) : (x.withoutTraces).txsr = x.txsr := rfl
@[simp] theorem Usart.event_withoutTraces (x : Usart) : (x.withoutTraces).event = x.event := rfl
@[simp] theorem Usart.spiMode_withoutTraces (x : Usart) : (x.withoutTraces).spiMode = x.spiMode := rfl
@[simp] theorem Usart.clkSel_withoutTraces (x : Usart) : (x.withoutTraces).clkSel = x.clkSel := rfl
@[simp] theorem Usart.baudRate_withoutTraces (x : Usart) : (x.withoutTraces).baudRate = x.baudRate := rfl
@[simp] theorem Usart.ticksPerByte_withoutTraces (x : Usart) : (x.withoutTraces).ticksPerByte = x.ticksPerByte := rfl
@[simp] theorem Usart.txEnabled_withoutTraces (x : Usart) : (x.withoutTraces).txEnabled = x.txEnabled := rfl
@[simp] theorem Usart.rxEnabled_withoutTraces (x : Usart) : (x.withoutTraces).rxEnabled = x.rxEnabled := rfl
@[simp] theorem Usart.notes_withoutTraces (x : Usart) : (x.withoutTraces).notes = [] := rfl
@[simp] theorem Usart.diags_withoutTraces (x : Usart) : (x.withoutTraces).diags = [] := rfl
@[simp] theorem Usart.draws_withoutTraces (x : Usart) : (x.withoutTraces).draws = x.draws := rfl

@[simp] theorem Usart.ctl_withoutDiagnostics (x : Usart) : (x.withoutDiagnostics).ctl = x.ctl := rfl
@[simp] theorem Usart.tctl_withoutDiagnostics (x : Usart) : (x.withoutDiagnostics).tctl = x.tctl := rfl
@[simp] theorem Usart.rctl_withoutDiagnostics (x : Usart) : (x.withoutDiagnostics).rctl = x.rctl := rfl
@[simp] theorem Usart.mctl_withoutDiagnostics (x : Usart) : (x.withoutDiagnostics).mctl = x.mctl := rfl
@[simp] theorem Usart.br0_withoutDiagnostics (x : Usart) : (x.withoutDiagnostics).br0 = x.br0 := rfl
@[simp] theorem Usart.br1_withoutDiagnostics (x : Usart) : (x.withoutDiagnostics).br1 = x.br1 := rfl
@[simp] theorem Usart.rxbuf_withoutDiagnostics (x : Usart) : (x.withoutDiagnostics).rxbuf = x.rxbuf := rfl
@[simp] theorem Usart.txbuf_withoutDiagnostics (x : Usart) : (x.withoutDiagnostics).txbuf = x.txbuf := rfl
@[simp] theorem Usart.txqValid_withoutDiagnostics (x : Usart) : (x.withoutDiagnostics).txqValid = x.txqValid := rfl
@[simp] theorem Usart.txsr_withoutDiagnostics (x : Usart) : (x.withoutDiagnostics).txsr = x.txsr := rfl
@[simp] theorem Usart.event_withoutDiagnostics (x : Usart) : (x.withoutDiagnostics).event = x.event := rfl
@[simp] theorem Usart.spiMode_withoutDiagnostics (x : Usart) : (x.withoutDiagnostics).spiMode = x.spiMode := rfl
@[simp] theorem Usart.clkSel_withoutDiagnostics (x : Usart) : (x.withoutDiagnostics).clkSel = x.clkSel := rfl
@[simp] theorem Usart.baudRate_withoutDiagnostics (x : Usart) : (x.withoutDiagnostics).baudRate = x.baudRate := rfl
@[simp] theorem Usart.ticksPerByte_withoutDiagnostics (x : Usart) : (x.withoutDiagnostics).ticksPerByte = x.ticksPerByte := rfl
@[simp] theorem Usart.txEnabled_withoutDiagnostics (x : Usart) : (x.withoutDiagnostics).txEnabled = x.txEnabled := rfl
@[simp] theorem Usart.rxEnabled_withoutDiagnostics (x : Usart) : (x.withoutDiagnostics).rxEnabled = x.rxEnabled := rfl
@[simp] theorem Usart.notes_withoutDiagnostics (x : Usart) : (x.withoutDiagnostics).notes = x.notes := rfl
@[simp] theorem Usart.diags_withoutDiagnostics (x : Usart) : (x.withoutDiagnostics).diags = [] := rfl
@[simp] theorem Usart.draws_withoutDiagnostics (x : Usart) : (x.withoutDiagnostics).draws = x.draws := rfl

@[simp] theorem Usart.ctl_notify (x : Usart) (c : UnitConfig) (n : Notification) : (x.notify c n).ctl = x.ctl := by
  unfold Usart.notify; split <;> simp
@[simp] theorem Usart.tctl_notify (x : Usart) (c : UnitConfig) (n : Notification) : (x.notify c n).tctl = x.tctl := by
  unfold Usart.notify; split <;> simp
@[simp] theorem Usart.rctl_notify (x : Usart) (c : UnitConfig) (n : Notification) : (x.notify c n).rctl = x.rctl := by
  unfold Usart.notify; split <;> simp
@[simp] theorem Usart.mctl_notify (x : Usart) (c : UnitConfig) (n : Notification) : (x.notify c n).mctl = x.mctl := by
  unfold Usart.notify; split <;> simp
@[simp] theorem Usart.br0_notify (x : Usart) (c : UnitConfig) (n : Notification) : (x.notify c n).br0 = x.br0 := by
  unfold Usart.notify; split <;> simp
@[simp] theorem Usart.br1_notify (x : Usart) (c : UnitConfig) (n : Notification) : (x.notify c n).br1 = x.br1 := by
  unfold Usart.notify; split <;> simp
@[simp] theorem Usart.rxbuf_notify (x : Usart) (c : UnitConfig) (n : Notification) : (x.notify c n).rxbuf = x.rxbuf := by
  unfold Usart.notify; split <;> simp
@[simp] theorem Usart.txbuf_notify (x : Usart) (c : UnitConfig) (n : Notification) : (x.notify c n).txbuf = x.txbuf := by
  unfold Usart.notify; split <;> simp
@[simp] theorem Usart.txqValid_notify (x : Usart) (c : UnitConfig) (n : Notification) : (x.notify c n).txqValid = x.txqValid := by
  unfold Usart.notify; split <;> simp
@[simp] theorem Usart.txsr_notify (x : Usart) (c : UnitConfig) (n : Notification) : (x.notify c n).txsr = x.txsr := by
  unfold Usart.notify; split <;> simp
@[simp] theorem Usart.event_notify (x : Usart) (c : UnitConfig) (n : Notification) : (x.notify c n).event = x.event := by
  unfold Usart.notify; split <;> simp
@[simp] theorem Usart.spiMode_notify (x : Usart) (c : UnitConfig) (n : Notification) : (x.notify c n).spiMode = x.spiMode := by
  unfold Usart.notify; split <;> simp
@[simp] theorem Usart.clkSel_notify (x : Usart) (c : UnitConfig) (n : Notification) : (x.notify c n).clkSel = x.clkSel := by
  unfold Usart.notify; split <;> simp
@[simp] theorem Usart.baudRate_notify (x : Usart) (c : UnitConfig) (n : Notification) : (x.notify c n).baudRate = x.baudRate := by
  unfold Usart.notify; split <;> simp
@[simp] theorem Usart.ticksPerByte_notify (x : Usart) (c : UnitConfig) (n : Notification) : (x.notify c n).ticksPerByte = x.ticksPerByte := by
  unfold Usart.notify; split <;> simp
@[simp] theorem Usart.txEnabled_notify (x : Usart) (c : UnitConfig) (n : Notification) : (x.notify c n).txEnabled = x.txEnabled := by
  unfold Usart.notify; split <;> simp
@[simp] theorem Usart.rxEnabled_notify (x : Usart) (c : UnitConfig) (n : Notification) : (x.notify c n).rxEnabled = x.rxEnabled := by
  unfold Usart.notify; split <;> simp
@[simp] theorem Usart.notes_notify (x : Usart) (c : UnitConfig) (n : Notification) : (x.notify c n).notes = x.notes ++ (if c.listener then [n] else []) := by
  unfold Usart.notify; split <;> simp
@[simp] theorem Usart.diags_notify (x : Usart) (c : UnitConfig) (n : Notification) : (x.notify c n).diags = x.diags := by
  unfold Usart.notify; split <;> simp
@[simp] theorem Usart.draws_notify (x : Usart) (c : UnitConfig) (n : Notification) : (x.notify c n).draws = x.draws := by
  unfold Usart.notify; split <;> simp

@[simp] theorem Usart.ctl_enableChange (x : Usart) (c : UnitConfig) (bit : Nat) (on : Bool) : (x.enableChange c bit on).ctl = x.ctl := by
  unfold Usart.enableChange; split <;> [rfl; split <;> rfl]
@[simp] theorem Usart.tctl_enableChange (x : Usart) (c : UnitConfig) (bit : Nat) (on : Bool) : (x.enableChange c bit on).tctl = x.tctl := by
  unfold Usart.enableChange; split <;> [rfl; split <;> rfl]
@[simp] theorem Usart.rctl_enableChange (x : Usart) (c : UnitConfig) (bit : Nat) (on : Bool) : (x.enableChange c bit on).rctl = x.rctl := by
  unfold Usart.enableChange; split <;> [rfl; split <;> rfl]
@[simp] theorem Usart.mctl_enableChange (x : Usart) (c : UnitConfig) (bit : Nat) (on : Bool) : (x.enableChange c bit on).mctl = x.mctl := by
  unfold Usart.enableChange; split <;> [rfl; split <;> rfl]
@[simp] theorem Usart.br0_enableChange (x : Usart) (c : UnitConfig) (bit : Nat) (on : Bool) : (x.enableChange c bit on).br0 = x.br0 := by
  unfold Usart.enableChange; split <;> [rfl; split <;> rfl]
@[simp] theorem Usart.br1_enableChange (x : Usart) (c : UnitConfig) (bit : Nat) (on : Bool) : (x.enableChange c bit on).br1 = x.br1 := by
  unfold Usart.enableChange; split <;> [rfl; split <;> rfl]
@[simp] theorem Usart.rxbuf_enableChange (x : Usart) (c : UnitConfig) (bit : Nat) (on : Bool) : (x.enableChange c bit on).rxbuf = x.rxbuf := by
  unfold Usart.enableChange; split <;> [rfl; split <;> rfl]
@[simp] theorem Usart.txbuf_enableChange (x : Usart) (c : UnitConfig) (bit : Nat) (on : Bool) : (x.enableChange c bit on).txbuf = x.txbuf := by
  unfold Usart.enableChange; split <;> [rfl; split <;> rfl]
@[simp] theorem Usart.txqValid_enableChange (x : Usart) (c : UnitConfig) (bit : Nat) (on : Bool) : (x.enableChange c bit on).txqValid = x.txqValid := by
  unfold Usart.enableChange; split <;> [rfl; split <;> rfl]
@[simp] theorem Usart.txsr_enableChange (x : Usart) (c : UnitConfig) (bit : Nat) (on : Bool) : (x.enableChange c bit on).txsr = x.txsr := by
  unfold Usart.enableChange; split <;> [rfl; split <;> rfl]
@[simp] theorem Usart.event_enableChange (x : Usart) (c : UnitConfig) (bit : Nat) (on : Bool) : (x.enableChange c bit on).event = x.event := by
  unfold Usart.enableChange; split <;> [rfl; split <;> rfl]
@[simp] theorem Usart.spiMode_enableChange (x : Usart) (c : UnitConfig) (bit : Nat) (on : Bool) : (x.enableChange c bit on).spiMode = x.spiMode := by
  unfold Usart.enableChange; split <;> [rfl; split <;> rfl]
@[simp] theorem Usart.clkSel_enableChange (x : Usart) (c : UnitConfig) (bit : Nat) (on : Bool) : (x.enableChange c bit on).clkSel = x.clkSel := by
  unfold Usart.enableChange; split <;> [rfl; split <;> rfl]
@[simp] theorem Usart.baudRate_enableChange (x : Usart) (c : UnitConfig) (bit : Nat) (on : Bool) : (x.enableChange c bit on).baudRate = x.baudRate := by
  unfold Usart.enableChange; split <;> [rfl; split <;> rfl]
@[simp] theorem Usart.ticksPerByte_enableChange (x : Usart) (c : UnitConfig) (bit : Nat) (on : Bool) : (x.enableChange c bit on).ticksPerByte = x.ticksPerByte := by
  unfold Usart.enableChange; split <;> [rfl; split <;> rfl]
@[simp] theorem Usart.notes_enableChange (x : Usart) (c : UnitConfig) (bit : Nat) (on : Bool) : (x.enableChange c bit on).notes = x.notes := by
  unfold Usart.enableChange; split <;> [rfl; split <;> rfl]
@[simp] theorem Usart.diags_enableChange (x : Usart) (c : UnitConfig) (bit : Nat) (on : Bool) : (x.enableChange c bit on).diags = x.diags := by
  unfold Usart.enableChange; split <;> [rfl; split <;> rfl]
@[simp] theorem Usart.draws_enableChange (x : Usart) (c : UnitConfig) (bit : Nat) (on : Bool) : (x.enableChange c bit on).draws = x.draws := by
  unfold Usart.enableChange; split <;> [rfl; split <;> rfl]

@[simp] theorem Usart.ctl_submit (x : Usart) (c : UnitConfig) (b : Byte) (n : Nat) : (x.submit c b n).ctl = x.ctl := by
  unfold Usart.submit; dsimp only; split <;> rfl
@[simp] theorem Usart.rctl_submit (x : Usart) (c : UnitConfig) (b : Byte) (n : Nat) : (x.submit c b n).rctl = x.rctl := by
  unfold Usart.submit; dsimp only; split <;> rfl
@[simp] theorem Usart.mctl_submit (x : Usart) (c : UnitConfig) (b : Byte) (n : Nat) : (x.submit c b n).mctl = x.mctl := by
  unfold Usart.submit; dsimp only; split <;> rfl
@[simp] theorem Usart.br0_submit (x : Usart) (c : UnitConfig) (b : Byte) (n : Nat) : (x.submit c b n).br0 = x.br0 := by
  unfold Usart.submit; dsimp only; split <;> rfl
@[simp] theorem Usart.br1_submit (x : Usart) (c : UnitConfig) (b : Byte) (n : Nat) : (x.submit c b n).br1 = x.br1 := by
  unfold Usart.submit; dsimp only; split <;> rfl
@[simp] theorem Usart.rxbuf_submit (x : Usart) (c : UnitConfig) (b : Byte) (n : Nat) : (x.submit c b n).rxbuf = x.rxbuf := by
  unfold Usart.submit; dsimp only; split <;> rfl
@[simp] theorem Usart.txsr_submit (x : Usart) (c : UnitConfig) (b : Byte) (n : Nat) : (x.submit c b n).txsr = x.txsr := by
  unfold Usart.submit; dsimp only; split <;> rfl
@[simp] theorem Usart.spiMode_submit (x : Usart) (c : UnitConfig) (b : Byte) (n : Nat) : (x.submit c b n).spiMode = x.spiMode := by
  unfold Usart.submit; dsimp only; split <;> rfl
@[simp] theorem Usart.clkSel_submit (x : Usart) (c : UnitConfig) (b : Byte) (n : Nat) : (x.submit c b n).clkSel = x.clkSel := by
  unfold Usart.submit; dsimp only; split <;> rfl
@[simp] theorem Usart.baudRate_submit (x : Usart) (c : UnitConfig) (b : Byte) (n : Nat) : (x.submit c b n).baudRate = x.baudRate := by
  unfold Usart.submit; dsimp only; split <;> rfl
@[simp] theorem Usart.ticksPerByte_submit (x : Usart) (c : UnitConfig) (b : Byte) (n : Nat) : (x.submit c b n).ticksPerByte = x.ticksPerByte := by
  unfold Usart.submit; dsimp only; split <;> rfl
@[simp] theorem Usart.txEnabled_submit (x : Usart) (c : UnitConfig) (b : Byte) (n : Nat) : (x.submit c b n).txEnabled = x.txEnabled := by
  unfold Usart.submit; dsimp only; split <;> rfl
@[simp] theorem Usart.rxEnabled_submit (x : Usart) (c : UnitConfig) (b : Byte) (n : Nat) : (x.submit c b n).rxEnabled = x.rxEnabled := by
  unfold Usart.submit; dsimp only; split <;> rfl
@[simp] theorem Usart.notes_submit (x : Usart) (c : UnitConfig) (b : Byte) (n : Nat) : (x.submit c b n).notes = x.notes := by
  unfold Usart.submit; dsimp only; split <;> rfl
@[simp] theorem Usart.diags_submit (x : Usart) (c : UnitConfig) (b : Byte) (n : Nat) : (x.submit c b n).diags = x.diags := by
  unfold Usart.submit; dsimp only; split <;> rfl
@[simp] theorem Usart.draws_submit (x : Usart) (c : UnitConfig) (b : Byte) (n : Nat) : (x.submit c b n).draws = x.draws := by
  unfold Usart.submit; dsimp only; split <;> rfl

/-! ## Updates of the whole state -/

@[simp] theorem State.cfg_setUsart (s : State) (u : UsartId) (x : Usart) : (s.setUsart u x).cfg = s.cfg := by cases u <;> rfl
@[simp] theorem State.ifg_setUsart (s : State) (u : UsartId) (x : Usart) : (s.setUsart u x).ifg = s.ifg := by cases u <;> rfl
@[simp] theorem State.ie_setUsart (s : State) (u : UsartId) (x : Usart) : (s.setUsart u x).ie = s.ie := by cases u <;> rfl
@[simp] theorem State.freqs_setUsart (s : State) (u : UsartId) (x : Usart) : (s.setUsart u x).freqs = s.freqs := by cases u <;> rfl
@[simp] theorem State.cycle_setUsart (s : State) (u : UsartId) (x : Usart) : (s.setUsart u x).cycle = s.cycle := by cases u <;> rfl
@[simp] theorem State.rdata_setUsart (s : State) (u : UsartId) (x : Usart) : (s.setUsart u x).rdata = s.rdata := by cases u <;> rfl
@[simp] theorem State.inputs_setUsart (s : State) (u : UsartId) (x : Usart) : (s.setUsart u x).inputs = s.inputs := by cases u <;> rfl

@[simp] theorem State.cfg_modify (s : State) (u : UsartId) (f : UnitConfig → Usart → Usart) : (s.modify u f).cfg = s.cfg := by cases u <;> rfl
@[simp] theorem State.ifg_modify (s : State) (u : UsartId) (f : UnitConfig → Usart → Usart) : (s.modify u f).ifg = s.ifg := by cases u <;> rfl
@[simp] theorem State.ie_modify (s : State) (u : UsartId) (f : UnitConfig → Usart → Usart) : (s.modify u f).ie = s.ie := by cases u <;> rfl
@[simp] theorem State.freqs_modify (s : State) (u : UsartId) (f : UnitConfig → Usart → Usart) : (s.modify u f).freqs = s.freqs := by cases u <;> rfl
@[simp] theorem State.cycle_modify (s : State) (u : UsartId) (f : UnitConfig → Usart → Usart) : (s.modify u f).cycle = s.cycle := by cases u <;> rfl
@[simp] theorem State.rdata_modify (s : State) (u : UsartId) (f : UnitConfig → Usart → Usart) : (s.modify u f).rdata = s.rdata := by cases u <;> rfl
@[simp] theorem State.inputs_modify (s : State) (u : UsartId) (f : UnitConfig → Usart → Usart) : (s.modify u f).inputs = s.inputs := by cases u <;> rfl

@[simp] theorem State.cfg_setFlag (s : State) (m : Nat) : (s.setFlag m).cfg = s.cfg := rfl
@[simp] theorem State.usart0_setFlag (s : State) (m : Nat) : (s.setFlag m).usart0 = s.usart0 := rfl
@[simp] theorem State.usart1_setFlag (s : State) (m : Nat) : (s.setFlag m).usart1 = s.usart1 := rfl
@[simp] theorem State.ifg_setFlag (s : State) (m : Nat) : (s.setFlag m).ifg = s.ifg ||| m := rfl
@[simp] theorem State.ie_setFlag (s : State) (m : Nat) : (s.setFlag m).ie = s.ie := rfl
@[simp] theorem State.freqs_setFlag (s : State) (m : Nat) : (s.setFlag m).freqs = s.freqs := rfl
@[simp] theorem State.cycle_setFlag (s : State) (m : Nat) : (s.setFlag m).cycle = s.cycle := rfl
@[simp] theorem State.rdata_setFlag (s : State) (m : Nat) : (s.setFlag m).rdata = s.rdata := rfl
@[simp] theorem State.inputs_setFlag (s : State) (m : Nat) : (s.setFlag m).inputs = s.inputs := rfl

@[simp] theorem State.cfg_clearFlag (s : State) (m : Nat) : (s.clearFlag m).cfg = s.cfg := rfl
@[simp] theorem State.usart0_clearFlag (s : State) (m : Nat) : (s.clearFlag m).usart0 = s.usart0 := rfl
@[simp] theorem State.usart1_clearFlag (s : State) (m : Nat) : (s.clearFlag m).usart1 = s.usart1 := rfl
@[simp] theorem State.ifg_clearFlag (s : State) (m : Nat) : (s.clearFlag m).ifg = clearBits s.ifg m := rfl
@[simp] theorem State.ie_clearFlag (s : State) (m : Nat) : (s.clearFlag m).ie = s.ie := rfl
@[simp] theorem State.freqs_clearFlag (s : State) (m : Nat) : (s.clearFlag m).freqs = s.freqs := rfl
@[simp] theorem State.cycle_clearFlag (s : State) (m : Nat) : (s.clearFlag m).cycle = s.cycle := rfl
@[simp] theorem State.rdata_clearFlag (s : State) (m : Nat) : (s.clearFlag m).rdata = s.rdata := rfl
@[simp] theorem State.inputs_clearFlag (s : State) (m : Nat) : (s.clearFlag m).inputs = s.inputs := rfl

/-! ## One copy's state in the whole -/

@[simp] theorem State.usart_setUsart_same (s : State) (u : UsartId) (x : Usart) : (s.setUsart u x).usart u = x := by
  cases u <;> rfl

theorem State.usart_setUsart_ne (s : State) {u v : UsartId} (x : Usart) (h : v ≠ u) : (s.setUsart u x).usart v = s.usart v := by
  cases u <;> cases v <;> first | rfl | exact absurd rfl h

@[simp] theorem State.usart_modify_same (s : State) (u : UsartId) (f : UnitConfig → Usart → Usart) :
    (s.modify u f).usart u = f (s.cfg.unit u) (s.usart u) := by
  cases u <;> rfl

theorem State.usart_modify_ne (s : State) {u v : UsartId} (f : UnitConfig → Usart → Usart) (h : v ≠ u) :
    (s.modify u f).usart v = s.usart v := State.usart_setUsart_ne s _ h

@[simp] theorem State.usart_setFlag (s : State) (m : Nat) (u : UsartId) : (s.setFlag m).usart u = s.usart u := by cases u <;> rfl

@[simp] theorem State.usart_clearFlag (s : State) (m : Nat) (u : UsartId) : (s.clearFlag m).usart u = s.usart u := by cases u <;> rfl

/-- A copy's state does not depend on the other fields of the whole. -/
@[simp] theorem State.usart_mk (s : State) (c : Config) (ifg ie : Nat) (f : Freqs) (n : Nat) (r : Option Byte) (l : List Input)
    (u : UsartId) : State.usart ⟨c, s.usart0, s.usart1, ifg, ie, f, n, r, l⟩ u = s.usart u := by cases u <;> rfl

theorem State.usart_withoutTraces (s : State) (u : UsartId) : s.withoutTraces.usart u = (s.usart u).withoutTraces := by
  cases u <;> rfl

theorem State.usart_withoutDiagnostics (s : State) (u : UsartId) :
    s.withoutDiagnostics.usart u = (s.usart u).withoutDiagnostics := by
  cases u <;> rfl

/-- Two states with the same fields and the same copies are one state. -/
theorem State.ext_usart {s t : State} (hc : s.cfg = t.cfg) (hu : ∀ u, s.usart u = t.usart u) (hi : s.ifg = t.ifg)
    (he : s.ie = t.ie) (hf : s.freqs = t.freqs) (hn : s.cycle = t.cycle) (hr : s.rdata = t.rdata)
    (hl : s.inputs = t.inputs) : s = t := by
  have h0 : s.usart0 = t.usart0 := hu .usart0
  have h1 : s.usart1 = t.usart1 := hu .usart1
  cases s; cases t; simp_all

end Sys2Proof.Machine
end

