-- ==== Sys2Proof/Laws/Decode.lean ====
section
/-! SUPPORT. The address decoder and the constraints of a legal configuration. -/

namespace Sys2Proof

@[simp] theorem slotOfOffset_offset (sl : Slot) : slotOfOffset sl.offset = some sl := by cases sl <;> rfl

theorem slotOfOffset_eq_some {n : Nat} {sl : Slot} : slotOfOffset n = some sl ↔ n = sl.offset := by
  constructor
  · intro h; unfold slotOfOffset at h; split at h <;> cases h <;> rfl
  · rintro rfl; simp

theorem Slot.offset_le (sl : Slot) : sl.offset ≤ 7 := by cases sl <;> decide

theorem Slot.offset_inj {a b : Slot} (h : a.offset = b.offset) : a = b := by
  have := slotOfOffset_eq_some.mpr h; simpa using this

/-- The slot at an integer offset (20_memory.md R61). -/
theorem slotAt_eq_some {o : Int} {sl : Slot} : slotAt o = some sl ↔ o = (sl.offset : Int) := by
  unfold slotAt
  split
  · rw [slotOfOffset_eq_some]; omega
  · simp; omega

theorem slotAt_eq_none {o : Int} : slotAt o = none ↔ ¬(0 ≤ o ∧ o ≤ 7) := by
  constructor
  · intro h hr
    obtain ⟨sl, hs⟩ : ∃ sl : Slot, o = (sl.offset : Int) := by
      have h8 : o.toNat < 8 := by omega
      have : ∀ n, n < 8 → ∃ sl : Slot, sl.offset = n := by
        intro n hn
        match n, hn with
        | 0, _ => exact ⟨.ctl, rfl⟩
        | 1, _ => exact ⟨.tctl, rfl⟩
        | 2, _ => exact ⟨.rctl, rfl⟩
        | 3, _ => exact ⟨.mctl, rfl⟩
        | 4, _ => exact ⟨.br0, rfl⟩
        | 5, _ => exact ⟨.br1, rfl⟩
        | 6, _ => exact ⟨.rxbuf, rfl⟩
        | 7, _ => exact ⟨.txbuf, rfl⟩
      obtain ⟨sl, hsl⟩ := this _ h8
      exact ⟨sl, by omega⟩
    rw [slotAt_eq_some.mpr hs] at h; cases h
  · intro h
    cases hs : slotAt o with
    | none => rfl
    | some sl => have := slotAt_eq_some.mp hs; have := sl.offset_le; omega

/-- What a legal configuration says of one copy (00_scope.md R8). -/
theorem UnitConfig.wf_facts {aw fw : Nat} {u : UnitConfig} (h : u.wf aw fw = true) :
    u.base + 7 < 2 ^ aw ∧ u.txifgMask ≠ 0 ∧ u.txifgMask < 2 ^ fw ∧ u.rxifgMask ≠ 0 ∧ u.rxifgMask < 2 ^ fw ∧
    u.txifgMask &&& u.rxifgMask = 0 ∧ u.txEnBit ≠ u.rxEnBit ∧ u.spiModeMask ≠ 0 ∧ u.sselLsb ≤ 6 ∧ u.txeptMask ≠ 0 := by
  simp only [UnitConfig.wf, oneBit, oneBitByte, Bool.and_eq_true, decide_eq_true_eq, bne_iff_ne, beq_iff_eq, ne_eq] at h
  tauto

theorem Config.wf_unit {c : Config} (h : c.wf = true) (u : UsartId) : (c.unit u).wf c.addrW c.flagW = true := by
  simp only [Config.wf, Bool.and_eq_true] at h
  cases u
  · exact h.1.1.1.1.1.2
  · exact h.1.1.1.1.2

/-- Two copies own no vector number in common (60_exceptions.md R227). -/
theorem Config.wf_vectors {c : Config} (h : c.wf = true) :
    c.unit0.txVec ≠ c.unit1.txVec ∧ c.unit0.txVec ≠ c.unit1.rxVec ∧ c.unit0.rxVec ≠ c.unit1.txVec ∧ c.unit0.rxVec ≠ c.unit1.rxVec := by
  simp only [Config.wf, UnitConfig.vectorsApart, Bool.and_eq_true, bne_iff_ne, ne_eq] at h
  obtain ⟨⟨⟨h1, h2⟩, h3⟩, h4⟩ := h.1.1.2
  exact ⟨h1, h2, h3, h4⟩

/-- Two copies' windows do not overlap (R8). -/
theorem Config.wf_windows {c : Config} (h : c.wf = true) : c.unit0.base + 7 < c.unit1.base ∨ c.unit1.base + 7 < c.unit0.base := by
  simp only [Config.wf, Bool.and_eq_true, Bool.or_eq_true, decide_eq_true_eq] at h
  exact h.1.2

/-- Two copies' flag masks are disjoint (R8, 43_receive_and_flag_bridge.md R211). -/
theorem Config.wf_masks {c : Config} (h : c.wf = true) :
    (c.unit0.txifgMask ||| c.unit0.rxifgMask) &&& (c.unit1.txifgMask ||| c.unit1.rxifgMask) = 0 := by
  simp only [Config.wf, Bool.and_eq_true, beq_iff_eq] at h
  exact h.2

/-- An address selects copy 0's slot exactly at that slot's offset. -/
theorem Config.select_usart0 {c : Config} {addr : Nat} {sl : Slot} :
    c.select addr = some (.usart0, sl) ↔ addr = c.unit0.base + sl.offset := by
  unfold Config.select
  have hsl := sl.offset_le
  cases h0 : slotAt (c.unit0.offsetOf addr) with
  | some a =>
    have ha := slotAt_eq_some.mp h0
    simp only [UnitConfig.offsetOf] at ha
    simp only [Option.some.injEq, Prod.mk.injEq, true_and]
    constructor
    · rintro rfl; omega
    · intro h; exact Slot.offset_inj (by omega)
  | none =>
    have hn := slotAt_eq_none.mp h0
    simp only [UnitConfig.offsetOf] at hn
    constructor
    · intro h; dsimp only at h; split at h <;> cases h
    · intro h; exfalso; apply hn; omega

/-- In a legal configuration an address selects copy 1's slot exactly at that slot's offset. -/
theorem Config.select_usart1 {c : Config} {addr : Nat} {sl : Slot} (hw : c.wf = true) :
    c.select addr = some (.usart1, sl) ↔ addr = c.unit1.base + sl.offset := by
  have hd := Config.wf_windows hw
  have hsl := sl.offset_le
  unfold Config.select
  cases h0 : slotAt (c.unit0.offsetOf addr) with
  | some a =>
    have ha := slotAt_eq_some.mp h0
    simp only [UnitConfig.offsetOf] at ha
    have := a.offset_le
    constructor
    · intro h; cases h
    · intro h; omega
  | none =>
    dsimp only
    cases h1 : slotAt (c.unit1.offsetOf addr) with
    | some a =>
      have ha := slotAt_eq_some.mp h1
      simp only [UnitConfig.offsetOf] at ha
      simp only [Option.some.injEq, Prod.mk.injEq, true_and]
      constructor
      · rintro rfl; omega
      · intro h; exact Slot.offset_inj (by omega)
    | none =>
      have hn := slotAt_eq_none.mp h1
      simp only [UnitConfig.offsetOf] at hn
      constructor
      · intro h; cases h
      · intro h; exfalso; apply hn; omega

/-- In a legal configuration an address selects a slot exactly at that slot's bus address. -/
theorem Config.select_iff {c : Config} {addr : Nat} {u : UsartId} {sl : Slot} (hw : c.wf = true) :
    c.select addr = some (u, sl) ↔ addr = c.addrOf u sl := by
  cases u
  · exact Config.select_usart0
  · exact Config.select_usart1 hw

/-- No copy is selected exactly outside both windows. -/
theorem Config.select_eq_none {c : Config} {addr : Nat} : c.select addr = none ↔ c.unselected addr = true := by
  unfold Config.select Config.unselected UnitConfig.inWindow
  cases h0 : slotAt (c.unit0.offsetOf addr) with
  | some a =>
    have ha := slotAt_eq_some.mp h0
    have := a.offset_le
    simp only [UnitConfig.offsetOf] at ha
    simp; omega
  | none =>
    have hn := slotAt_eq_none.mp h0
    simp only [UnitConfig.offsetOf] at hn
    dsimp only
    cases h1 : slotAt (c.unit1.offsetOf addr) with
    | some a =>
      have ha := slotAt_eq_some.mp h1
      have := a.offset_le
      simp only [UnitConfig.offsetOf] at ha
      simp; omega
    | none =>
      have hn1 := slotAt_eq_none.mp h1
      simp only [UnitConfig.offsetOf] at hn1
      simp; omega

/-- The address a table word of an unselected access gets is outside both windows. -/
theorem Config.unselected_outsideAddr (c : Config) : c.unselected c.outsideAddr = true := by
  unfold Config.outsideAddr
  split
  · assumption
  · split
    · assumption
    · simp_all [Config.unselected, UnitConfig.inWindow]; omega

/-- A register's address is a bus address. -/
theorem Config.onBus_addrOf {c : Config} (hw : c.wf = true) (u : UsartId) (sl : Slot) : c.onBus (c.addrOf u sl) = true := by
  have h := (UnitConfig.wf_facts (Config.wf_unit hw u)).1
  have := sl.offset_le
  exact decide_eq_true (by unfold Config.addrOf; omega)

end Sys2Proof
end

