-- ==== Sys2Proof/Laws/Ops.lean ====
section
/-! SUPPORT. For each shared operation, what it can do. -/

namespace Sys2Proof.Machine

/-! ## Flag bits (43_receive_and_flag_bridge.md R204, R205) -/

@[simp] theorem clearBits_testBit (v m b : Nat) : (clearBits v m).testBit b = (v.testBit b && !m.testBit b) := by
  simp only [clearBits, Nat.testBit_xor, Nat.testBit_and]
  cases v.testBit b <;> cases m.testBit b <;> rfl

theorem clearBits_lt {v n : Nat} (m : Nat) (h : v < 2 ^ n) : clearBits v m < 2 ^ n :=
  Nat.xor_lt_two_pow h (Nat.lt_of_le_of_lt Nat.and_le_left h)

theorem flagsSet_setFlag (s : State) (m : Nat) : FlagsSet m s (s.setFlag m) := fun b => by simp

theorem flagsCleared_clearFlag (s : State) (m : Nat) : FlagsCleared m s (s.clearFlag m) := fun b => by simp

@[simp] theorem clearBits_and_self (v m : Nat) : clearBits v m &&& m = 0 :=
  Nat.eq_of_testBit_eq fun b => by simp only [Nat.testBit_and, clearBits_testBit, Nat.zero_testBit]; cases m.testBit b <;> simp

theorem clearBits_clearBits_same (v m : Nat) : clearBits (clearBits v m) m = clearBits v m :=
  Nat.eq_of_testBit_eq fun b => by simp only [clearBits_testBit]; cases m.testBit b <;> simp

/-- A mask the cleared one does not meet reads as before. -/
theorem clearBits_and_of_disjoint {v m k : Nat} (h : m &&& k = 0) : clearBits v m &&& k = v &&& k :=
  Nat.eq_of_testBit_eq fun b => by
    have hb : (m &&& k).testBit b = false := by simp [h]
    rw [Nat.testBit_and] at hb
    simp only [Nat.testBit_and, clearBits_testBit]
    cases hm : m.testBit b <;> simp_all

/-- A mask the set one does not meet reads as before. -/
theorem or_and_of_disjoint {v m k : Nat} (h : m &&& k = 0) : (v ||| m) &&& k = v &&& k :=
  Nat.eq_of_testBit_eq fun b => by
    have hb : (m &&& k).testBit b = false := by simp [h]
    rw [Nat.testBit_and] at hb
    simp only [Nat.testBit_and, Nat.testBit_or]
    cases hm : m.testBit b <;> simp_all

/-- A flag whose mask was just set reads 1. -/
theorem or_and_self_ne_zero {v m : Nat} (h : m ≠ 0) : (v ||| m) &&& m ≠ 0 := by
  intro h0
  apply h
  refine Nat.eq_of_testBit_eq fun b => ?_
  have hb : ((v ||| m) &&& m).testBit b = false := by simp [h0]
  rw [Nat.testBit_and, Nat.testBit_or] at hb
  cases hm : m.testBit b <;> simp_all

/-! ## TXEPT (10_state.md R38) -/

theorem Usart.txept_setTxept {x : Usart} {c : UnitConfig} (h : c.txeptMask ≠ 0) : (x.setTxept c).txept c = true := by
  have : (x.tctl ||| c.txeptMask) &&& c.txeptMask = c.txeptMask := by ext b; simp; exact Or.inr
  simpa [Usart.txept, anySet, this] using h

theorem Usart.txept_clearTxept (x : Usart) (c : UnitConfig) : (x.clearTxept c).txept c = false := by
  have : x.tctl &&& ~~~c.txeptMask &&& c.txeptMask = 0 := by ext b; simp
  simp [Usart.txept, anySet, this]

/-- A write of TCTL keeps TXEPT (40_register_file.md R121). -/
theorem storedTctl_txept (c : UnitConfig) (old wdata : Byte) : storedTctl c old wdata &&& c.txeptMask = old &&& c.txeptMask := by
  ext b
  simp only [storedTctl, BitVec.getElem_and, BitVec.getElem_or, BitVec.getElem_not]
  cases c.txeptMask[b] <;> simp

/-! ## The transmitter (42_transmit_engine.md R175, R180) -/

theorem Usart.txState_idle_iff (x : Usart) : x.txState = .idle ↔ x.txsr = none ∧ x.txqValid = false := by
  unfold Usart.txState; cases x.txsr <;> cases x.txqValid <;> simp

theorem Usart.txState_loaded_iff (x : Usart) : x.txState = .loaded ↔ x.txsr = none ∧ x.txqValid = true := by
  unfold Usart.txState; cases x.txsr <;> cases x.txqValid <;> simp

theorem Usart.txState_shifting_iff (x : Usart) : x.txState = .shifting ↔ ∃ b, x.txsr = some b := by
  unfold Usart.txState; cases x.txsr <;> cases x.txqValid <;> simp

/-- What `submit` leaves in the copy (R175). -/
theorem Usart.submit_eq (x : Usart) (c : UnitConfig) (b : Byte) (cycle : Nat) :
    x.submit c b cycle = { x with
      tctl := x.tctl &&& ~~~c.txeptMask, txbuf := b, txqValid := true,
      event := if x.txState = .idle then some (cycle + 3) else x.event } := by
  unfold Usart.submit
  dsimp only
  split <;> simp_all [Usart.sched, Usart.clearTxept, loadTarget, loadDelay]

@[simp] theorem Usart.tctl_submit (x : Usart) (c : UnitConfig) (b : Byte) (n : Nat) :
    (x.submit c b n).tctl = x.tctl &&& ~~~c.txeptMask := by simp [Usart.submit_eq]

@[simp] theorem Usart.txbuf_submit (x : Usart) (c : UnitConfig) (b : Byte) (n : Nat) : (x.submit c b n).txbuf = b := by
  simp [Usart.submit_eq]

@[simp] theorem Usart.txqValid_submit (x : Usart) (c : UnitConfig) (b : Byte) (n : Nat) : (x.submit c b n).txqValid = true := by
  simp [Usart.submit_eq]

@[simp] theorem Usart.event_submit (x : Usart) (c : UnitConfig) (b : Byte) (n : Nat) :
    (x.submit c b n).event = if x.txState = .idle then some (n + 3) else x.event := by simp [Usart.submit_eq]

theorem Usart.tick_idle {x : Usart} (c : UnitConfig) (t : Nat) (h : x.txsr = none) (hq : x.txqValid = false) :
    x.tick c t = { x with event := none } := by
  simp [Usart.tick, Usart.finishShift, Usart.loadShift, Usart.unsched, h, hq]

theorem Usart.tick_loaded {x : Usart} (c : UnitConfig) (t : Nat) (h : x.txsr = none) (hq : x.txqValid = true) :
    x.tick c t = { x with txsr := some x.txbuf, txqValid := false, event := some (t + x.ticksPerByte + 1) } := by
  simp [Usart.tick, Usart.finishShift, Usart.loadShift, Usart.unsched, Usart.sched, shiftTarget, shiftExtra, h, hq]

theorem Usart.notify_eq (x : Usart) (c : UnitConfig) (n : Notification) :
    x.notify c n = { x with notes := x.notes ++ (if c.listener then [n] else []) } := by
  unfold Usart.notify; split <;> simp

theorem Usart.tick_done {x : Usart} (c : UnitConfig) (t : Nat) {b : Byte} (h : x.txsr = some b) (hq : x.txqValid = false) :
    x.tick c t = { x with
      tctl := x.tctl ||| c.txeptMask, txsr := none, event := none,
      notes := x.notes ++ (if c.listener then [.byteAvailableForTransmit b] else []) } := by
  simp [Usart.tick, Usart.finishShift, Usart.loadShift, Usart.unsched, Usart.notify_eq, Usart.setTxept, h, hq]

theorem Usart.tick_next {x : Usart} (c : UnitConfig) (t : Nat) {b : Byte} (h : x.txsr = some b) (hq : x.txqValid = true) :
    x.tick c t = { x with
      txsr := some x.txbuf, txqValid := false, event := some (t + x.ticksPerByte + 1),
      notes := x.notes ++ (if c.listener then [.byteAvailableForTransmit b] else []) } := by
  simp [Usart.tick, Usart.finishShift, Usart.loadShift, Usart.unsched, Usart.notify_eq, Usart.sched, shiftTarget, shiftExtra, h, hq]

/-- What a TICK tells the listener: the byte whose shift it ends (42_transmit_engine.md R182). -/
def Usart.toldAtTick (x : Usart) (c : UnitConfig) : List Notification :=
  match x.txsr with
  | some b => if c.listener then [.byteAvailableForTransmit b] else []
  | none => []

/-- The four states of a TICK in one equation (R180). -/
theorem Usart.tick_eq (x : Usart) (c : UnitConfig) (t : Nat) :
    x.tick c t = { x with
      tctl := if x.txState = .shifting ∧ x.txqValid = false then x.tctl ||| c.txeptMask else x.tctl
      txqValid := false
      txsr := if x.txqValid then some x.txbuf else none
      event := if x.txqValid then some (t + x.ticksPerByte + 1) else none
      notes := x.notes ++ x.toldAtTick c } := by
  cases h : x.txsr <;> cases hq : x.txqValid
  · rw [Usart.tick_idle c t h hq]; simp [Usart.txState_shifting_iff, Usart.toldAtTick, h, hq]
  · rw [Usart.tick_loaded c t h hq]; simp [Usart.toldAtTick, h]
  · rw [Usart.tick_done c t h hq]; simp [Usart.txState_shifting_iff, Usart.toldAtTick, h, hq]
  · rw [Usart.tick_next c t h hq]; simp [Usart.toldAtTick, h]

@[simp] theorem Usart.ctl_tick (x : Usart) (c : UnitConfig) (t : Nat) : (x.tick c t).ctl = x.ctl := by
  rw [Usart.tick_eq]
@[simp] theorem Usart.tctl_tick (x : Usart) (c : UnitConfig) (t : Nat) : (x.tick c t).tctl = if x.txState = .shifting ∧ x.txqValid = false then x.tctl ||| c.txeptMask else x.tctl := by
  rw [Usart.tick_eq]
@[simp] theorem Usart.rctl_tick (x : Usart) (c : UnitConfig) (t : Nat) : (x.tick c t).rctl = x.rctl := by
  rw [Usart.tick_eq]
@[simp] theorem Usart.mctl_tick (x : Usart) (c : UnitConfig) (t : Nat) : (x.tick c t).mctl = x.mctl := by
  rw [Usart.tick_eq]
@[simp] theorem Usart.br0_tick (x : Usart) (c : UnitConfig) (t : Nat) : (x.tick c t).br0 = x.br0 := by
  rw [Usart.tick_eq]
@[simp] theorem Usart.br1_tick (x : Usart) (c : UnitConfig) (t : Nat) : (x.tick c t).br1 = x.br1 := by
  rw [Usart.tick_eq]
@[simp] theorem Usart.rxbuf_tick (x : Usart) (c : UnitConfig) (t : Nat) : (x.tick c t).rxbuf = x.rxbuf := by
  rw [Usart.tick_eq]
@[simp] theorem Usart.txbuf_tick (x : Usart) (c : UnitConfig) (t : Nat) : (x.tick c t).txbuf = x.txbuf := by
  rw [Usart.tick_eq]
@[simp] theorem Usart.txqValid_tick (x : Usart) (c : UnitConfig) (t : Nat) : (x.tick c t).txqValid = false := by
  rw [Usart.tick_eq]
@[simp] theorem Usart.txsr_tick (x : Usart) (c : UnitConfig) (t : Nat) : (x.tick c t).txsr = if x.txqValid then some x.txbuf else none := by
  rw [Usart.tick_eq]
@[simp] theorem Usart.event_tick (x : Usart) (c : UnitConfig) (t : Nat) : (x.tick c t).event = if x.txqValid then some (t + x.ticksPerByte + 1) else none := by
  rw [Usart.tick_eq]
@[simp] theorem Usart.spiMode_tick (x : Usart) (c : UnitConfig) (t : Nat) : (x.tick c t).spiMode = x.spiMode := by
  rw [Usart.tick_eq]
@[simp] theorem Usart.clkSel_tick (x : Usart) (c : UnitConfig) (t : Nat) : (x.tick c t).clkSel = x.clkSel := by
  rw [Usart.tick_eq]
@[simp] theorem Usart.baudRate_tick (x : Usart) (c : UnitConfig) (t : Nat) : (x.tick c t).baudRate = x.baudRate := by
  rw [Usart.tick_eq]
@[simp] theorem Usart.ticksPerByte_tick (x : Usart) (c : UnitConfig) (t : Nat) : (x.tick c t).ticksPerByte = x.ticksPerByte := by
  rw [Usart.tick_eq]
@[simp] theorem Usart.txEnabled_tick (x : Usart) (c : UnitConfig) (t : Nat) : (x.tick c t).txEnabled = x.txEnabled := by
  rw [Usart.tick_eq]
@[simp] theorem Usart.rxEnabled_tick (x : Usart) (c : UnitConfig) (t : Nat) : (x.tick c t).rxEnabled = x.rxEnabled := by
  rw [Usart.tick_eq]
@[simp] theorem Usart.notes_tick (x : Usart) (c : UnitConfig) (t : Nat) : (x.tick c t).notes = x.notes ++ x.toldAtTick c := by
  rw [Usart.tick_eq]
@[simp] theorem Usart.diags_tick (x : Usart) (c : UnitConfig) (t : Nat) : (x.tick c t).diags = x.diags := by
  rw [Usart.tick_eq]
@[simp] theorem Usart.draws_tick (x : Usart) (c : UnitConfig) (t : Nat) : (x.tick c t).draws = x.draws := by
  rw [Usart.tick_eq]

theorem Usart.tickDue_iff (x : Usart) (t : Nat) : x.tickDue t = true ↔ ∃ target, x.event = some target ∧ target ≤ t := by
  unfold Usart.tickDue; cases x.event <;> simp

/-- What ENCHG leaves in the copy (43_receive_and_flag_bridge.md R208). -/
theorem Usart.enableChange_eq (x : Usart) (c : UnitConfig) (bit : Nat) (on : Bool) :
    x.enableChange c bit on = { x with
      txEnabled := if bit = c.txEnBit then on else x.txEnabled
      rxEnabled := if bit ≠ c.txEnBit ∧ bit = c.rxEnBit then on else x.rxEnabled } := by
  unfold Usart.enableChange
  split
  · simp_all
  · split <;> simp_all

@[simp] theorem Usart.txEnabled_enableChange (x : Usart) (c : UnitConfig) (bit : Nat) (on : Bool) :
    (x.enableChange c bit on).txEnabled = if bit = c.txEnBit then on else x.txEnabled := by simp [Usart.enableChange_eq]

@[simp] theorem Usart.rxEnabled_enableChange (x : Usart) (c : UnitConfig) (bit : Nat) (on : Bool) :
    (x.enableChange c bit on).rxEnabled = if bit ≠ c.txEnBit ∧ bit = c.rxEnBit then on else x.rxEnabled := by
  simp [Usart.enableChange_eq]

/-! ## The ways a meaning ends -/

@[simp] theorem complete_next {s t : State} : complete s = .next t ↔ { s with rdata := none } = t := by simp [complete]

@[simp] theorem answer_next {v : Byte} {s t : State} : answer v s = .next t ↔ { s with rdata := some v } = t := by simp [answer]

/-- An update of copy `u` alone, completed, is nothing but that update. -/
theorem sameElsewhere_modify (s : State) (u : UsartId) (f : UnitConfig → Usart → Usart) (r : Option Byte) :
    SameElsewhere u s { s.modify u f with rdata := r } :=
  ⟨fun v h => by simp [State.usart_modify_ne s f h], by simp, by simp, by simp, by simp, by simp⟩

theorem execTick_next {u : UsartId} {t : Nat} {s s' : State} (h : execTick u t s = .next s') :
    (s.usart u).tickDue t = true ∧
      s' = { (s.modify u (fun c x => x.tick c t)).setFlag (s.cfg.unit u).txifgMask with rdata := none } := by
  unfold execTick at h
  split at h
  · exact ⟨‹_›, (complete_next.mp h).symm⟩
  · cases h

theorem execWrTxbuf_next {u : UsartId} {w : Byte} {cycle : Nat} {s s' : State} (h : execWrTxbuf u w cycle s = .next s') :
    ((s.usart u).txGate = true ∧ s' = { submit u w cycle s with rdata := none }) ∨
    ((s.usart u).txGate = false ∧ s' = { s.modify u (fun _ x => x.diag .txWriteDropped) with rdata := none }) := by
  unfold execWrTxbuf at h
  split at h
  · exact .inl ⟨‹_›, (complete_next.mp h).symm⟩
  · exact .inr ⟨eq_false_of_ne_true ‹_›, (complete_next.mp h).symm⟩

theorem execDeliver_next {u : UsartId} {b cycle : Nat} {s s' : State} (h : execDeliver u b cycle s = .next s') :
    ((s.usart u).rxEnabled = true ∧
      s' = { (s.setFlag (s.cfg.unit u).rxifgMask).modify u (fun c x =>
        { x with rxbuf := receivedByte b }.rxDiagnostic u (s.isEnabled c.rxifgMask)) with rdata := none }) ∨
    ((s.usart u).rxEnabled = false ∧ s' = { s with rdata := none }) := by
  unfold execDeliver at h
  split at h
  · exact .inl ⟨‹_›, (complete_next.mp h).symm⟩
  · exact .inr ⟨eq_false_of_ne_true ‹_›, (complete_next.mp h).symm⟩

/-- A presented operation runs only if it is not stamped before the counter (10_state.md R49). -/
theorem perform_next {i : Instr} {s t : State} (h : perform i s = .next t) :
    s.cycle ≤ s.counterAt i ∧ exec i { s with cycle := s.counterAt i } = .next t := by
  unfold perform at h
  split at h
  · exact ⟨‹_›, h⟩
  · cases h

/-- The four ways the host's action gives a next state. -/
theorem applyInput_next {e : Input} {s t : State} (h : applyInput e s = .next t) :
    (∃ r i, e = .request r ∧ decode s.cfg r = .ok i ∧ perform i s = .next t) ∨
    (∃ v, e = .writeIfg v ∧ t = { s with ifg := v % 2 ^ s.cfg.flagW }) ∨
    (∃ v, e = .writeIe v ∧ t = { s with ie := v % 2 ^ s.cfg.flagW }) ∨
    (∃ f, e = .setFreqs f ∧ t = { s with freqs := f }) := by
  cases e with
  | request r =>
    simp only [applyInput] at h
    split at h
    · exact .inl ⟨r, _, rfl, ‹_›, h⟩
    · cases h
  | writeIfg v => exact .inr (.inl ⟨v, rfl, by simpa [applyInput] using h.symm⟩)
  | writeIe v => exact .inr (.inr (.inl ⟨v, rfl, by simpa [applyInput] using h.symm⟩))
  | setFreqs f => exact .inr (.inr (.inr ⟨f, rfl, by simpa [applyInput] using h.symm⟩))

/-- What a step can do. -/
theorem step_next {s t : State} (h : step s = .next t) :
    s.cfg.wf = true ∧
    ((s.inputs = [] ∧ t = s) ∨ ∃ e rest, s.inputs = e :: rest ∧ applyInput e { s with inputs := rest } = .next t) := by
  unfold step runNext at h
  split at h
  · refine ⟨‹_›, ?_⟩
    split at h
    · exact .inl ⟨‹_›, by simpa using h.symm⟩
    · exact .inr ⟨_, _, ‹_›, h⟩
  · cases h

end Sys2Proof.Machine
end

