-- ==== Sys2Proof/Laws/Exec.lean ====
section
/-! SUPPORT. What an operation does, said once: its effect on the copy it addresses, on `IFG` and on `rdata`, and that
nothing else changes. A proof about every operation inverts `exec` with `exec_next` and then works on these three. -/

namespace Sys2Proof.Machine

/-- The copy whose state an operation may change; an unselected access changes neither, and is given copy 0. -/
def copyOf (i : Instr) : UsartId := (targetOf i).getD .usart0

/-- The effect on that copy, from the frequencies, `IE` and the copy's parameters. -/
def copyEffect : Instr → Freqs → Nat → UnitConfig → Usart → Usart
  | .wrCtl _ w _, _, _, c, x => { x with ctl := w, spiMode := spiBit c w }
  | .wrTctl _ w _, f, _, c, x =>
    { x with tctl := storedTctl c x.tctl w, clkSel := clockOf c.clksel (clockCode c w) }.recompute f
  | .wrRctl _ w _, _, _, _, x => { x with rctl := w }
  | .wrMctl _ w _, _, _, _, x => { x with mctl := w }
  | .wrBr0 _ w _, f, _, _, x => { x with br0 := w }.recompute f
  | .wrBr1 _ w _, f, _, _, x => { x with br1 := w }.recompute f
  | .wrTxbuf _ w n, _, _, c, x => if x.txGate then x.submit c w n else x.diag .txWriteDropped
  | .rdRxbuf _ _, _, _, c, x => x.notify c .receiveFlagCleared
  | .reset _ n, _, _, c, x => x.resetAt c n
  | .tick _ t, _, _, c, x => x.tick c t
  | .deliver u b _, _, ie, c, x =>
    if x.rxEnabled then { x with rxbuf := receivedByte b }.rxDiagnostic u (ie &&& c.rxifgMask == c.rxifgMask) else x
  | .enchg _ bit on, _, _, c, x => x.enableChange c bit on
  | _, _, _, _, x => x

/-- The effect on `IFG`. -/
def flagEffect : Instr → UnitConfig → Usart → Nat → Nat
  | .wrTxbuf _ _ _, c, x, v => if x.txGate then clearBits v c.txifgMask else v
  | .rdRxbuf _ _, c, _, v => clearBits v c.rxifgMask
  | .reset _ _, c, _, v => clearBits v (c.txifgMask ||| c.rxifgMask)
  | .tick _ _, c, _, v => v ||| c.txifgMask
  | .deliver _ _ _, c, x, v => if x.rxEnabled then v ||| c.rxifgMask else v
  | _, _, _, v => v

/-- What the operation returns. -/
def answerOf : Instr → Usart → Option Byte
  | .rdCtl _ _, x => some x.ctl
  | .rdTctl _ _, x => some x.tctl
  | .rdRctl _ _, x => some x.rctl
  | .rdMctl _ _, x => some x.mctl
  | .rdBr0 _ _, x => some x.br0
  | .rdBr1 _ _, x => some x.br1
  | .rdRxbuf _ _, x => some x.rxbuf
  | .rdTxbuf _ _, x => some x.txbuf
  | .rdNone _ _, _ => some 0
  | _, _ => none

/-- The state an operation leaves. -/
def effect (i : Instr) (s : State) : State :=
  { s.modify (copyOf i) (copyEffect i s.freqs s.ie) with
    ifg := flagEffect i (s.cfg.unit (copyOf i)) (s.usart (copyOf i)) s.ifg
    rdata := answerOf i (s.usart (copyOf i)) }

/-- An operation that the host may perform leaves its effect. -/
theorem exec_eq_effect {i : Instr} {s : State} (h : Performable i s) : exec i s = .next (effect i s) := by
  cases i with
  | wrTxbuf u w n =>
    simp only [exec, execWrTxbuf, effect, copyOf, targetOf, Option.getD, flagEffect, answerOf, complete]
    by_cases hg : (s.usart u).txGate = true
    all_goals
      simp only [hg, if_true, if_false, Bool.false_eq_true]
      congr 1
      refine State.ext_usart ?_ ?_ ?_ ?_ ?_ ?_ ?_ ?_ <;> simp [submit]
      intro v
      by_cases hv : v = u
      · subst hv; simp [copyEffect, hg]
      · simp [State.usart_modify_ne _ _ hv]
  | deliver u b n =>
    simp only [exec, execDeliver, effect, copyOf, targetOf, Option.getD, flagEffect, answerOf, complete]
    by_cases hg : (s.usart u).rxEnabled = true
    all_goals
      simp only [hg, if_true, if_false, Bool.false_eq_true]
      congr 1
      refine State.ext_usart ?_ ?_ ?_ ?_ ?_ ?_ ?_ ?_ <;> simp
      intro v
      by_cases hv : v = u
      · subst hv; simp [copyEffect, hg, State.isEnabled]
      · simp [State.usart_modify_ne _ _ hv]
  | tick u t =>
    simp only [Performable] at h
    simp only [exec, execTick, h, if_true, effect, copyOf, targetOf, Option.getD, complete]
    cases u <;> rfl
  | _ =>
    first
    | (cases ‹UsartId› <;> rfl)
    | rfl

/-- The only next state of an operation is its effect. -/
theorem exec_next {i : Instr} {s t : State} (h : exec i s = .next t) : Performable i s ∧ t = effect i s := by
  have hp : Performable i s := by
    cases i <;> try trivial
    exact (execTick_next h).1
  rw [exec_eq_effect hp] at h
  exact ⟨hp, by simpa using h.symm⟩

@[simp] theorem cfg_effect (i : Instr) (s : State) : (effect i s).cfg = s.cfg := by simp [effect]
@[simp] theorem ie_effect (i : Instr) (s : State) : (effect i s).ie = s.ie := by simp [effect]
@[simp] theorem freqs_effect (i : Instr) (s : State) : (effect i s).freqs = s.freqs := by simp [effect]
@[simp] theorem cycle_effect (i : Instr) (s : State) : (effect i s).cycle = s.cycle := by simp [effect]
@[simp] theorem inputs_effect (i : Instr) (s : State) : (effect i s).inputs = s.inputs := by simp [effect]
@[simp] theorem ifg_effect (i : Instr) (s : State) :
    (effect i s).ifg = flagEffect i (s.cfg.unit (copyOf i)) (s.usart (copyOf i)) s.ifg := by simp [effect]
@[simp] theorem rdata_effect (i : Instr) (s : State) : (effect i s).rdata = answerOf i (s.usart (copyOf i)) := by simp [effect]

theorem usart_effect_same (i : Instr) (s : State) :
    (effect i s).usart (copyOf i) = copyEffect i s.freqs s.ie (s.cfg.unit (copyOf i)) (s.usart (copyOf i)) := by
  simp [effect]

theorem usart_effect_ne (i : Instr) (s : State) {v : UsartId} (h : v ≠ copyOf i) : (effect i s).usart v = s.usart v := by
  simp [effect, State.usart_modify_ne _ _ h]

/-- A copy is as it was, or is the addressed one and has the effect. -/
theorem usart_effect_cases (i : Instr) (s : State) (u : UsartId) :
    (effect i s).usart u = s.usart u ∨
    (u = copyOf i ∧ (effect i s).usart u = copyEffect i s.freqs s.ie (s.cfg.unit u) (s.usart u)) := by
  by_cases h : u = copyOf i
  · subst h; exact .inr ⟨rfl, usart_effect_same i s⟩
  · exact .inl (usart_effect_ne i s h)

/-- `IFG` keeps its width (10_state.md R48). -/
theorem flagEffect_lt {i : Instr} {c : UnitConfig} {x : Usart} {v w : Nat} (hv : v < 2 ^ w) (ht : c.txifgMask < 2 ^ w)
    (hr : c.rxifgMask < 2 ^ w) : flagEffect i c x v < 2 ^ w := by
  cases i <;> simp only [flagEffect] <;> (try exact hv)
  · exact clearBits_lt _ hv
  · split
    · exact clearBits_lt _ hv
    · exact hv
  · exact clearBits_lt _ hv
  · exact Nat.or_lt_two_pow hv ht
  · split
    · exact Nat.or_lt_two_pow hv hr
    · exact hv

/-- The effect on a copy depends on `IE` in the diagnostic trace alone (43_receive_and_flag_bridge.md R203, R207). -/
theorem copyEffect_ie (i : Instr) (f : Freqs) (e e' : Nat) (c : UnitConfig) (x : Usart) :
    (copyEffect i f e c x).withoutDiagnostics = (copyEffect i f e' c x).withoutDiagnostics := by
  cases i <;> try rfl
  simp only [copyEffect]
  split <;> rfl

/-- Two copies' masks do not meet (00_scope.md R8). -/
theorem masks_disjoint {c : Config} (hw : c.wf = true) {u v : UsartId} (h : u ≠ v) :
    ((c.unit u).txifgMask ||| (c.unit u).rxifgMask) &&& ((c.unit v).txifgMask ||| (c.unit v).rxifgMask) = 0 := by
  have := Config.wf_masks hw
  cases u <;> cases v <;> simp_all [Config.unit]
  rw [Nat.and_comm]; exact this

/-- The invariant of the machine, copy by copy. -/
theorem State.inv_iff (s : State) :
    s.Inv ↔ s.cfg.wf = true ∧ (∀ u, (s.usart u).Consistent (s.cfg.unit u)) ∧ s.ifg < 2 ^ s.cfg.flagW ∧ s.ie < 2 ^ s.cfg.flagW := by
  constructor
  · rintro ⟨a, b, c, d⟩
    exact ⟨a, fun u => by cases u <;> assumption, d⟩
  · rintro ⟨a, b, c⟩
    exact ⟨a, b .usart0, b .usart1, c⟩

/-- Two copies with the same fields are the same without their traces. -/
theorem Usart.withoutTraces_ext {p q : Usart} (h0 : p.ctl = q.ctl) (h1 : p.tctl = q.tctl) (h2 : p.rctl = q.rctl)
    (h3 : p.mctl = q.mctl) (h4 : p.br0 = q.br0) (h5 : p.br1 = q.br1) (h6 : p.rxbuf = q.rxbuf) (h7 : p.txbuf = q.txbuf)
    (h8 : p.txqValid = q.txqValid) (h9 : p.txsr = q.txsr) (h10 : p.event = q.event) (h11 : p.spiMode = q.spiMode)
    (h12 : p.clkSel = q.clkSel) (h13 : p.baudRate = q.baudRate) (h14 : p.ticksPerByte = q.ticksPerByte)
    (h15 : p.txEnabled = q.txEnabled) (h16 : p.rxEnabled = q.rxEnabled) (h17 : p.draws = q.draws) :
    p.withoutTraces = q.withoutTraces := by
  cases p; cases q
  simp only [Usart.withoutTraces] at *
  subst_vars
  rfl

end Sys2Proof.Machine
end

