-- ==== Sys2Proof/Laws/PerInstr.lean ====
section
/-! SUPPORT. Statements made of every operation as syntax, one lemma per constructor.

`SelectorWord`: the selector of an operation (30_encoding.md R98), as a table word, decodes to an operation of the same row. -/

namespace Sys2Proof.Laws.SelectorWord

def Statement (i : Instr) : Prop := (decodeTableWord 8 i.selector.toNat).map Instr.selector = some i.selector

/-- A selector of R99, as a table word, decodes to an operation of its row. -/
theorem named : ∀ w : BitVec 6, w.toNat < 16 ∨ w = 0b010000 ∨ w = 0b011000 ∨ (32 ≤ w.toNat ∧ w.toNat < 36) →
    (decodeTableWord 8 w.toNat).map Instr.selector = some w := by decide

theorem rdCtl (u : UsartId) (cycle : Nat) : Statement (.rdCtl u cycle) := named 0b000000 (by decide)
theorem rdTctl (u : UsartId) (cycle : Nat) : Statement (.rdTctl u cycle) := named 0b000001 (by decide)
theorem rdRctl (u : UsartId) (cycle : Nat) : Statement (.rdRctl u cycle) := named 0b000010 (by decide)
theorem rdMctl (u : UsartId) (cycle : Nat) : Statement (.rdMctl u cycle) := named 0b000011 (by decide)
theorem rdBr0 (u : UsartId) (cycle : Nat) : Statement (.rdBr0 u cycle) := named 0b000100 (by decide)
theorem rdBr1 (u : UsartId) (cycle : Nat) : Statement (.rdBr1 u cycle) := named 0b000101 (by decide)
theorem rdRxbuf (u : UsartId) (cycle : Nat) : Statement (.rdRxbuf u cycle) := named 0b000110 (by decide)
theorem rdTxbuf (u : UsartId) (cycle : Nat) : Statement (.rdTxbuf u cycle) := named 0b000111 (by decide)
theorem wrCtl (u : UsartId) (wdata : Byte) (cycle : Nat) : Statement (.wrCtl u wdata cycle) := named 0b001000 (by decide)
theorem wrTctl (u : UsartId) (wdata : Byte) (cycle : Nat) : Statement (.wrTctl u wdata cycle) := named 0b001001 (by decide)
theorem wrRctl (u : UsartId) (wdata : Byte) (cycle : Nat) : Statement (.wrRctl u wdata cycle) := named 0b001010 (by decide)
theorem wrMctl (u : UsartId) (wdata : Byte) (cycle : Nat) : Statement (.wrMctl u wdata cycle) := named 0b001011 (by decide)
theorem wrBr0 (u : UsartId) (wdata : Byte) (cycle : Nat) : Statement (.wrBr0 u wdata cycle) := named 0b001100 (by decide)
theorem wrBr1 (u : UsartId) (wdata : Byte) (cycle : Nat) : Statement (.wrBr1 u wdata cycle) := named 0b001101 (by decide)
theorem wrRxbuf (u : UsartId) (wdata : Byte) (cycle : Nat) : Statement (.wrRxbuf u wdata cycle) := named 0b001110 (by decide)
theorem wrTxbuf (u : UsartId) (wdata : Byte) (cycle : Nat) : Statement (.wrTxbuf u wdata cycle) := named 0b001111 (by decide)
theorem rdNone (addr cycle : Nat) : Statement (.rdNone addr cycle) := named 0b010000 (by decide)
theorem wrNone (addr : Nat) (wdata : Byte) (cycle : Nat) : Statement (.wrNone addr wdata cycle) := named 0b011000 (by decide)
theorem reset (u : UsartId) (cycle : Nat) : Statement (.reset u cycle) := named 0b100000 (by decide)
theorem tick (u : UsartId) (t : Nat) : Statement (.tick u t) := named 0b100001 (by decide)
theorem deliver (u : UsartId) (b cycle : Nat) : Statement (.deliver u b cycle) := named 0b100010 (by decide)
theorem enchg (u : UsartId) (bit : Nat) (on : Bool) : Statement (.enchg u bit on) := named 0b100011 (by decide)

end Sys2Proof.Laws.SelectorWord
end

