-- ==== Sys2Proof/Tests/Slice0.lean ====
section
/-! SUPPORT. Tests: decoding, well-formedness, one step each, and the witnesses of the statements' hypotheses. Expected values
are those of 95_test_vectors.md (V…, P…) or worked by hand from the rule named. -/

namespace Sys2Proof.Tests

open Sys2Proof.Machine

/-! ## Decoding: bus forms of 95_test_vectors.md section 0.3 and port numbers of 30_encoding.md R98, under EX -/

/-- The request decodes to the operation. -/
def decodesTo (r : Request) (i : Instr) : Bool :=
  match decode Config.ex r with
  | .ok j => j == i
  | .error _ => false

theorem test_decode_reads :
    decodesTo (.bus false 0x70 0 1) (.rdCtl .usart0 1) ∧ decodesTo (.bus false 0x71 0 1) (.rdTctl .usart0 1) ∧
    decodesTo (.bus false 0x72 0 1) (.rdRctl .usart0 1) ∧ decodesTo (.bus false 0x73 0 1) (.rdMctl .usart0 1) ∧
    decodesTo (.bus false 0x74 0 1) (.rdBr0 .usart0 1) ∧ decodesTo (.bus false 0x75 0 1) (.rdBr1 .usart0 1) ∧
    decodesTo (.bus false 0x76 0 1) (.rdRxbuf .usart0 1) ∧ decodesTo (.bus false 0x77 0 1) (.rdTxbuf .usart0 1) := by decide

theorem test_decode_writes :
    decodesTo (.bus true 0x70 0x14 1) (.wrCtl .usart0 0x14 1) ∧ decodesTo (.bus true 0x71 0x10 1) (.wrTctl .usart0 0x10 1) ∧
    decodesTo (.bus true 0x72 0xA5 1) (.wrRctl .usart0 0xA5 1) ∧ decodesTo (.bus true 0x73 0x4A 1) (.wrMctl .usart0 0x4A 1) ∧
    decodesTo (.bus true 0x74 0x68 1) (.wrBr0 .usart0 0x68 1) ∧ decodesTo (.bus true 0x75 0x03 1) (.wrBr1 .usart0 0x03 1) ∧
    decodesTo (.bus true 0x76 0x00 1) (.wrRxbuf .usart0 0x00 1) ∧
    decodesTo (.bus true 0x77 0x41 1) (.wrTxbuf .usart0 0x41 1) := by decide

/-- V15, V16: `0x6F` is offset -1 of copy 0; `0x78` is offset 8 of copy 0 and CTL of copy 1; `0x7E` is RXBUF of copy 1 (V66). -/
theorem test_decode_window_edges :
    decodesTo (.bus false 0x6F 0 1) (.rdNone 0x6F 1) ∧ decodesTo (.bus true 0x80 0xFF 1) (.wrNone 0x80 0xFF 1) ∧
    decodesTo (.bus false 0 0 1) (.rdNone 0 1) ∧ decodesTo (.bus false 0x78 0 1) (.rdCtl .usart1 1) ∧
    decodesTo (.bus false 0x7E 0 1) (.rdRxbuf .usart1 1) ∧ decodesTo (.bus true 0x7F 0x42 1) (.wrTxbuf .usart1 0x42 1) := by decide

theorem test_decode_ports :
    decodesTo (.port .usart1 0 50 0 false) (.reset .usart1 50) ∧ decodesTo (.port .usart1 1 100 0 false) (.tick .usart1 100) ∧
    decodesTo (.port .usart1 2 20 0x1A5 false) (.deliver .usart1 0x1A5 20) ∧
    decodesTo (.port .usart1 3 0 7 true) (.enchg .usart1 7 true) := by decide

/-- R98, R99: a table word per format, bit 3 the direction, bit 4 outside the window, bit 5 a port. -/
theorem test_decode_table_words :
    decodeTableWord 8 0b001100 = some (.wrBr0 .usart0 0 0) ∧ decodeTableWord 8 0b000110 = some (.rdRxbuf .usart0 0) ∧
    decodeTableWord 8 0b011101 = some (.wrNone 0 0 0) ∧ decodeTableWord 8 0b100010 = some (.deliver .usart0 0 0) := by decide

/-- R101: selectors `1 00100` and `1 11111` name no operation; a bit above bit 5 names none either. -/
theorem test_decode_refuses :
    decodeTableWord 8 0b100100 = none ∧ decodeTableWord 8 0b111111 = none ∧ decodeTableWord 8 0b1000000 = none ∧
    decode Config.ex (.port .usart0 4 0 0 false) = .error (.reservedPort 4) ∧
    decode Config.ex (.bus false 0x10000 0 0) = .error .addressTooWide := ⟨by decide, by decide, by decide, rfl, rfl⟩

/-- Steps of P1 and P2, in the bus form those programs give. -/
theorem test_encode_bus_forms :
    encode Config.ex (.wrTxbuf .usart0 0x41 0) = .bus true 0x77 0x41 0 ∧
    encode Config.ex (.rdTctl .usart0 13) = .bus false 0x71 0 13 ∧
    encode Config.ex (.wrTctl .usart0 0x20 5) = .bus true 0x71 0x20 5 ∧
    encode Config.ex (.enchg .usart0 7 true) = .port .usart0 3 0 7 true := by decide

/-- 20_memory.md R66: a 16-bit value written to offset 4 reaches BR0 as its low byte, and BR1 not at all. -/
theorem test_wide_write_masked : decodesTo (wideWriteRequest 0x74 0x0341 1) (.wrBr0 .usart0 0x41 1) := by decide

/-- 30_encoding.md R104: SETDIV 833 is WR.BR0 0x41 then WR.BR1 0x03 (V10); ENABLE.TX of copy 1 names bit 5. -/
theorem test_pseudo_expansions :
    Pseudo.expand Config.ex .usart0 (.setDiv 833 2) = [.wrBr0 .usart0 0x41 2, .wrBr1 .usart0 0x03 2] ∧
    Pseudo.expand Config.ex .usart1 .enableTx = [.enchg .usart1 5 true] := by decide

/-! ## Well-formedness: each check refuses an ill-formed term -/

theorem test_wf_selected_address_refused :
    (Instr.rdNone 0x70 0).wf Config.ex = false ∧ (Instr.wrNone 0x7F 0 0).wf Config.ex = false ∧
    (Instr.rdNone 0x6F 0).wf Config.ex = true ∧ (Instr.wrNone 0x80 0 0).wf Config.ex = true := by decide

theorem test_wf_wide_address_refused :
    (Instr.rdNone 0x10000 0).wf Config.ex = false ∧ (Instr.wrNone 0x10000 0 0).wf Config.ex = false ∧
    (Instr.rdNone 0xFFFF 0).wf Config.ex = true := by decide

/-- Config.ex with copy 0 changed. -/
def withUnit0 (f : UnitConfig → UnitConfig) : Config := { Config.ex with unit0 := f UnitConfig.ex0 }

theorem test_config_ex_legal : Config.ex.wf = true := by decide

theorem test_config_window_refused :
    (withUnit0 fun u => { u with base := 0xFFF9 }).wf = false ∧ (withUnit0 fun u => { u with base := 0xFFF8 }).wf = true ∧
    (withUnit0 fun u => { u with base := 0x71 }).wf = false ∧ { Config.ex with addrW := 2 }.wf = false := by decide

theorem test_config_masks_refused :
    (withUnit0 fun u => { u with txifgMask := 0 }).wf = false ∧ (withUnit0 fun u => { u with txifgMask := 0x81 }).wf = false ∧
    (withUnit0 fun u => { u with txifgMask := 0x40 }).wf = false ∧ (withUnit0 fun u => { u with txifgMask := 0x100 }).wf = false ∧
    (withUnit0 fun u => { u with rxifgMask := 0 }).wf = false ∧ (withUnit0 fun u => { u with rxifgMask := 0x42 }).wf = false ∧
    (withUnit0 fun u => { u with rxifgMask := 0x100 }).wf = false ∧
    (withUnit0 fun u => { u with rxifgMask := 0x20 }).wf = false := by decide

theorem test_config_keys_refused :
    (withUnit0 fun u => { u with txEnBit := 6 }).wf = false ∧ (withUnit0 fun u => { u with txVec := 9 }).wf = false ∧
    (withUnit0 fun u => { u with id := 1 }).wf = false := by decide

/-- R227: a copy's vector pair is its own; copy 1 of EX owns 2 and 3. -/
theorem test_config_shared_vectors_refused :
    (withUnit0 fun u => { u with txVec := 2, rxVec := 3 }).wf = false ∧ (withUnit0 fun u => { u with txVec := 3, rxVec := 2 }).wf = false ∧
    (withUnit0 fun u => { u with txVec := 2 }).wf = false ∧ (withUnit0 fun u => { u with txVec := 3 }).wf = false ∧
    (withUnit0 fun u => { u with rxVec := 2 }).wf = false ∧ (withUnit0 fun u => { u with rxVec := 3 }).wf = false ∧
    (withUnit0 fun u => { u with txVec := 1, rxVec := 4 }).wf = true := by decide

theorem test_config_fields_refused :
    (withUnit0 fun u => { u with spiModeMask := 0 }).wf = false ∧ (withUnit0 fun u => { u with spiModeMask := 0x0C }).wf = false ∧
    (withUnit0 fun u => { u with sselLsb := 7 }).wf = false ∧ (withUnit0 fun u => { u with txeptMask := 0x10 }).wf = false ∧
    (withUnit0 fun u => { u with txeptMask := 0x03 }).wf = false ∧ (withUnit0 fun u => { u with txeptMask := 0 }).wf = false := by
  decide

/-! ## One step each. `S0` is the common start state of 95_test_vectors.md section 0.4 -/

/-- S0 with copy 0 changed. -/
def s0 (f : Usart → Usart) : State := { State.reset with usart0 := f State.reset.usart0 }

/-- TX8 of section 4. -/
def tx8 (f : Usart → Usart) : State := s0 fun x => f { x with ticksPerByte := 8, txEnabled := true }

/-- V43's end: shifting 0x41, event at 12. -/
def v43 (f : Usart → Usart) : State :=
  { tx8 fun x => f { x with tctl := 0, txbuf := 0x41, txsr := some 0x41, event := some 12 } with ifg := 0x80 }

/-- The operation completes in a state that passes. -/
def leaves (i : Instr) (s : State) (p : State → Bool) : Bool :=
  match exec i s with
  | .next t => p t
  | _ => false

/-- The operation completes and copy 0 passes. -/
def leaves0 (i : Instr) (s : State) (p : Usart → Bool) : Bool := leaves i s fun t => p t.usart0

/-- Section 0.4, S0. -/
theorem test_reset_state_s0 :
    State.reset.usart0.tctl = 0x01 ∧ State.reset.usart0.event = some 100 ∧ State.reset.usart0.ticksPerByte = 1000 ∧
    State.reset.usart0.txState = .idle ∧ State.reset.ifg = 0 ∧ State.reset.usart1.event = some 100 := by decide

/-- V1. -/
theorem test_wr_ctl_sets_spi : leaves0 (.wrCtl .usart0 0x14 1) (s0 id) fun x => x.ctl == 0x14 && x.spiMode := by decide
/-- V3: every bit but the tested one. -/
theorem test_wr_ctl_other_bits :
    leaves0 (.wrCtl .usart0 0xFB 1) (s0 fun x => { x with spiMode := true }) fun x => x.ctl == 0xFB && !x.spiMode := by decide
/-- V1. -/
theorem test_rd_ctl : leaves (.rdCtl .usart0 2) (s0 fun x => { x with ctl := 0x14 }) fun t => t.rdata == some 0x14 := by decide

/-- V4. -/
theorem test_wr_tctl_clock_a :
    leaves0 (.wrTctl .usart0 0x10 5) (s0 fun x => { x with br0 := 3 }) fun x =>
      x.tctl == 0x11 && x.clkSel == .A && x.baudRate == 10922 && x.ticksPerByte == 732 := by decide
/-- V5 (c): in loaded the state machine's 0 wins over the written 1. -/
theorem test_wr_tctl_txept_read_only :
    leaves0 (.wrTctl .usart0 0xFF 1) (tx8 fun x => { x with tctl := 0, txqValid := true }) fun x =>
      x.tctl == 0xFE && x.clkSel == .B := by decide
/-- V17, loaded. -/
theorem test_rd_tctl : leaves (.rdTctl .usart0 1) (tx8 fun x => { x with tctl := 0x20 }) fun t => t.rdata == some 0x20 := by decide

/-- V7. -/
theorem test_wr_rctl : leaves0 (.wrRctl .usart0 0xA5 1) (s0 id) fun x => x.rctl == 0xA5 && x.mctl == 0 := by decide
/-- V7. -/
theorem test_rd_rctl : leaves (.rdRctl .usart0 1) (s0 fun x => { x with rctl := 0xA5 }) fun t => t.rdata == some 0xA5 := by decide
/-- V8: no recomputation. -/
theorem test_wr_mctl : leaves0 (.wrMctl .usart0 0x4A 1) (s0 id) fun x => x.mctl == 0x4A && x.ticksPerByte == 1000 := by decide
/-- V8. -/
theorem test_rd_mctl : leaves (.rdMctl .usart0 1) (s0 fun x => { x with mctl := 0x4A }) fun t => t.rdata == some 0x4A := by decide

/-- V9, V22. -/
theorem test_wr_br0 :
    leaves0 (.wrBr0 .usart0 104 6) (s0 id) fun x => x.br0 == 0x68 && x.baudRate == 9615 && x.ticksPerByte == 832 := by decide
/-- V20: both bytes 0. -/
theorem test_wr_br0_zero_divisor :
    leaves0 (.wrBr0 .usart0 0 0) (s0 id) fun x => x.br0 == 0 && x.baudRate == 1000000 && x.ticksPerByte == 8 := by decide
/-- V9. -/
theorem test_rd_br0 : leaves (.rdBr0 .usart0 7) (s0 fun x => { x with br0 := 0x68 }) fun t => t.rdata == some 0x68 := by decide
/-- V10, second half. -/
theorem test_wr_br1 :
    leaves0 (.wrBr1 .usart0 3 7) (s0 fun x => { x with br0 := 0x41 }) fun x => x.baudRate == 1200 && x.ticksPerByte == 6666 := by
  decide
/-- V24, V25: the zero-baud clamp and its boundary (both give 1). -/
theorem test_wr_br1_zero_baud :
    leaves0 (.wrBr1 .usart0 0x80 7) (s0 fun x => { x with br0 := 1, clkSel := .A }) (fun x =>
      x.baudRate == 1 && x.ticksPerByte == 8000000) ∧
    leaves0 (.wrBr1 .usart0 0x80 7) (s0 fun x => { x with clkSel := .A }) fun x =>
      x.baudRate == 1 && x.ticksPerByte == 8000000 := by decide
/-- V10. -/
theorem test_rd_br1 : leaves (.rdBr1 .usart0 7) (s0 fun x => { x with br1 := 3 }) fun t => t.rdata == some 0x03 := by decide

/-- V11. -/
theorem test_wr_rxbuf_ignored :
    leaves0 (.wrRxbuf .usart0 0 9) (s0 fun x => { x with rxbuf := 0x55 }) fun x => x.rxbuf == 0x55 && x.notes == [] := by decide
/-- V13, first read. -/
theorem test_rd_rxbuf :
    leaves (.rdRxbuf .usart0 21) { s0 (fun x => { x with rxbuf := 0xA5 }) with ifg := 0x40 } fun t =>
      t.rdata == some 0xA5 && t.ifg == 0 && t.usart0.notes == [.receiveFlagCleared] := by decide
/-- V13, second read, with other flags of the register kept. -/
theorem test_rd_rxbuf_again :
    leaves (.rdRxbuf .usart0 22) { s0 (fun x => { x with rxbuf := 0xA5, notes := [.receiveFlagCleared] }) with ifg := 0xB0 } fun t =>
      t.rdata == some 0xA5 && t.ifg == 0xB0 && t.usart0.notes == [.receiveFlagCleared, .receiveFlagCleared] := by decide

/-- V40: the flag forced to 1 is cleared, the startup event replaced. -/
theorem test_wr_txbuf_accepted :
    leaves (.wrTxbuf .usart0 0x41 0) { tx8 id with ifg := 0x80 } fun t =>
      t.usart0.tctl == 0 && t.usart0.txbuf == 0x41 && t.usart0.txqValid && t.usart0.event == some 3 && t.ifg == 0 := by decide
/-- V12, row 0 1 0: SPI mode alone does not open the gate. -/
theorem test_wr_txbuf_dropped :
    leaves (.wrTxbuf .usart0 0x41 10) { s0 (fun x => { x with spiMode := true }) with ifg := 0x80 } fun t =>
      t.usart0.txbuf == 0 && !t.usart0.txqValid && t.usart0.event == some 100 && t.ifg == 0x80 &&
      t.usart0.diags == [.txWriteDropped] := by decide
/-- V41, second write: the load event is not moved. -/
theorem test_wr_txbuf_last_wins :
    leaves0 (.wrTxbuf .usart0 0x42 1) (tx8 fun x => { x with tctl := 0, txbuf := 0x41, txqValid := true, event := some 3 })
      fun x => x.txbuf == 0x42 && x.event == some 3 := by decide
/-- V14, after a TICK and a RESET. -/
theorem test_rd_txbuf : leaves (.rdTxbuf .usart0 5) (s0 fun x => { x with txbuf := 0x41 }) fun t => t.rdata == some 0x41 := by decide

/-- V15. -/
theorem test_rd_none : leaves (.rdNone 0x6F 1) (s0 fun x => { x with txbuf := 0x41 }) fun t => t.rdata == some 0 := by decide
/-- V16. -/
theorem test_wr_none : leaves (.wrNone 0x80 0xFF 1) (s0 id) fun t => t == s0 id := by decide

/-- V43. -/
theorem test_tick_loaded :
    leaves (.tick .usart0 3) (tx8 fun x => { x with tctl := 0, txbuf := 0x41, txqValid := true, event := some 3 }) fun t =>
      t == v43 id := by decide
/-- V45: a queued byte is picked up with no load delay; TXEPT stays 0. -/
theorem test_tick_next_byte :
    leaves (.tick .usart0 12) (v43 fun x => { x with txbuf := 0x42, txqValid := true }) fun t =>
      t.usart0.notes == [.byteAvailableForTransmit 0x41] && t.usart0.txsr == some 0x42 && t.usart0.event == some 21 &&
      t.usart0.tctl == 0 && t.ifg == 0x80 := by decide
/-- V44. -/
theorem test_tick_done :
    leaves (.tick .usart0 12) (v43 id) fun t =>
      t.usart0.notes == [.byteAvailableForTransmit 0x41] && t.usart0.tctl == 1 && t.usart0.txsr == none &&
      t.usart0.event == none && t.ifg == 0x80 := by decide
/-- V48: fired late, the next event counts from the firing cycle; V48: `TICK @2` is not allowed. -/
theorem test_tick_late_and_early :
    leaves0 (.tick .usart0 7) (tx8 fun x => { x with tctl := 0, txqValid := true, event := some 3 }) (fun x => x.event == some 16) ∧
    exec (.tick .usart0 2) (tx8 fun x => { x with tctl := 0, txqValid := true, event := some 3 }) = .refused .tickNotDue :=
  ⟨by decide, rfl⟩

/-- V61: masked to 8 bits, flag set. -/
theorem test_deliver_enabled :
    leaves (.deliver .usart0 0x1A5 20) (s0 fun x => { x with rxEnabled := true }) fun t =>
      t.usart0.rxbuf == 0xA5 && t.ifg == 0x40 && t.usart0.notes == [] := by decide
/-- V60. -/
theorem test_deliver_disabled : leaves (.deliver .usart0 0x31 5) (s0 id) fun t => t == s0 id := by decide

/-- V64. -/
theorem test_enchg_own_bit : leaves0 (.enchg .usart0 6 true) (s0 id) fun x => x.rxEnabled && !x.txEnabled := by decide
/-- V64, V66: the other copy's bit. -/
theorem test_enchg_other_bit : leaves (.enchg .usart0 5 true) (s0 id) fun t => t == s0 id := by decide

/-- V70. -/
theorem test_reset_mid_transmission :
    leaves (.reset .usart0 50)
      { s0 (fun x => { x with
          tctl := 0, br0 := 8, rxbuf := 0xA5, txbuf := 0x42, txqValid := true, txsr := some 0x41, event := some 78,
          ticksPerByte := 64, txEnabled := true, rxEnabled := true }) with ifg := 0x50 } fun t =>
      t == { s0 (fun x => { x with
          br0 := 8, rxbuf := 0xA5, txbuf := 0x42, event := some 150, ticksPerByte := 64 }) with ifg := 0x10 } := by decide
/-- V73: the registers and the rate are kept. -/
theorem test_reset_keeps :
    leaves0 (.reset .usart0 9)
      (s0 fun x => { x with ctl := 0x14, tctl := 0x10, br0 := 3, clkSel := .A, ticksPerByte := 732, spiMode := true }) fun x =>
      x.ctl == 0x14 && x.tctl == 0x11 && x.clkSel == .A && x.ticksPerByte == 732 && x.spiMode && x.event == some 109 := by decide

/-! ## The step -/

/-- A presented bus write runs, and the counter follows its stamp. -/
theorem test_step_runs_request :
    (match step { s0 id with inputs := [.request (.bus true 0x70 0x14 6)] } with
     | .next t => t.usart0.ctl == 0x14 && t.cycle == 6 && t.inputs == []
     | _ => false) = true := by decide

/-- A table word is run next: TICK at the startup target, 100 (V46). -/
theorem test_step_runs_table_word :
    (match step (State.reset.withFetchWord 8 0b100001) with
     | .next t => t.ifg == 0x80 && t.usart0.event == none && t.cycle == 100
     | _ => false) = true := by decide

/-- V55: the host clears a flag. -/
theorem test_step_host_clears_flag :
    (match step { v43 id with inputs := [.writeIfg 0x100] } with
     | .next t => t.ifg == 0 && t.usart0 == (v43 id).usart0
     | _ => false) = true := by decide

/-- V35: a stopped clock. V39: clock A drives the divisor, `F_SEC` the numerator. -/
theorem test_recompute_frequencies :
    leaves0 (.wrBr0 .usart0 1 1) { s0 id with freqs := { fA := 32768, fB := 0, fSec := 1000000 } } (fun x =>
      x.baudRate == 1 && x.ticksPerByte == 8000000) ∧
    leaves0 (.wrBr0 .usart0 0x68 1) { s0 (fun x => { x with clkSel := .A }) with
      freqs := { fA := 32768, fB := 8000000, fSec := 8000000 } } fun x =>
      x.baudRate == 315 && x.ticksPerByte == 203174 := by decide

/-! ## Witnesses: for each statement with hypotheses, a state and operands that meet them, at the boundaries of each clause -/

/-- UnnamedSelectorsRefused, `36 ≤ w` and `4 ≤ num` at their bounds, and the last named values below them. -/
theorem witness_UnnamedSelectorsRefused :
    decodeTableWord 8 36 = none ∧ decodeTableWord 8 35 ≠ none ∧
    (decode Config.ex (.port .usart1 4 0 0 false)).isOk = false ∧ (decode Config.ex (.port .usart1 3 0 0 false)).isOk = true := by
  decide

/-- OperationMapWordsDecode, the clauses with `k < 8` at 0 and 7. -/
theorem witness_OperationMapWordsDecode :
    decodeTableWord 8 (0b010000 + 0) = some (.rdNone 0 0) ∧ decodeTableWord 8 (0b010000 + 7) = some (.rdNone 0 0) ∧
    decodeTableWord 8 (0b011000 + 0) = some (.wrNone 0 0 0) ∧ decodeTableWord 8 (0b011000 + 7) = some (.wrNone 0 0 0) := by decide

theorem witness_DecodeOfEncode :
    Config.ex.wf = true ∧ (Instr.rdNone 0x6F 3).wf Config.ex = true ∧ (Instr.wrNone 0xFFFF 0xFF 3).wf Config.ex = true ∧
    (Instr.wrTxbuf .usart1 0xFF 3).wf Config.ex = true ∧ (Instr.enchg .usart0 300 true).wf Config.ex = true := by decide

theorem witness_EncodeOfDecodedBus :
    Config.ex.wf = true ∧ decode Config.ex (.bus true 0x77 0x41 3) = .ok (.wrTxbuf .usart0 0x41 3) ∧
    decode Config.ex (.bus false 0x77 0x41 3) = .ok (.rdTxbuf .usart0 3) ∧
    decode Config.ex (.bus false 0x6F 0x41 3) = .ok (.rdNone 0x6F 3) := ⟨by decide, rfl, rfl, rfl⟩

/-- AddressSelectsByOffset: offsets -1, 0, 7 and 8 of each copy, and a base that is no multiple of 8. -/
theorem witness_AddressSelectsByOffset :
    Config.ex.wf = true ∧ Config.ex.unit0.base % 8 = 0 ∧ Config.ex.unit1.base % 8 = 0 ∧
    Config.ex.select 0x6F = none ∧ Config.ex.select 0x70 = some (.usart0, .ctl) ∧ Config.ex.select 0x77 = some (.usart0, .txbuf) ∧
    Config.ex.select 0x78 = some (.usart1, .ctl) ∧ Config.ex.select 0x7F = some (.usart1, .txbuf) ∧ Config.ex.select 0x80 = none ∧
    (withUnit0 fun u => { u with base := 0x31 }).wf = true ∧
    (withUnit0 fun u => { u with base := 0x31 }).select 0x38 = some (.usart0, .txbuf) := by decide

/-- StepPerformsDecoded: stamped exactly at the counter, and after it. -/
theorem witness_StepPerformsDecoded :
    let r0 : Request := .bus true 0x77 0x41 0
    let r9 : Request := .port .usart0 1 100 0 false
    ({ State.reset with inputs := [.request r0] } : State).cfg.wf = true ∧
    decode Config.ex r0 = .ok (.wrTxbuf .usart0 0x41 0) ∧ State.reset.cycle ≤ State.reset.counterAt (.wrTxbuf .usart0 0x41 0) ∧
    decode Config.ex r9 = .ok (.tick .usart0 100) ∧ State.reset.cycle ≤ State.reset.counterAt (.tick .usart0 100) :=
  ⟨by decide, rfl, by decide, rfl, by decide⟩

/-- HostChangesTouchOnlyTheirRegister, one state per clause. -/
theorem witness_HostChangesTouchOnlyTheirRegister :
    State.reset.cfg.wf = true ∧ State.reset.inputs = [] ∧
    ({ State.reset with inputs := [.writeIfg 0xFF] } : State).inputs = .writeIfg 0xFF :: [] ∧
    ({ State.reset with inputs := [.writeIe 0x100] } : State).inputs = .writeIe 0x100 :: [] ∧
    ({ State.reset with inputs := [.setFreqs Freqs.ex] } : State).inputs = .setFreqs Freqs.ex :: [] :=
  ⟨by decide, rfl, rfl, rfl, rfl⟩

/-- StepAnswersExactlyWhenPresentable: a presentable state, and one that is not (a TICK one cycle early). -/
theorem witness_StepAnswersExactlyWhenPresentable :
    (State.reset.withFetchWord 8 0b100001).Presentable ∧
    ¬({ State.reset with inputs := [.request (.port .usart0 1 99 0 false)] } : State).Presentable := by
  constructor
  · exact ⟨by decide, Nat.zero_le _, rfl⟩
  · intro h; exact absurd h.2.2 (by decide)

/-- EveryOperationIsTotal: a TICK exactly at its target, and one cycle before it. -/
theorem witness_EveryOperationIsTotal :
    State.reset.usart0.event = some 100 ∧ (∃ t, exec (.tick .usart0 100) State.reset = .next t) ∧
    exec (.tick .usart0 99) State.reset = .refused .tickNotDue := ⟨rfl, ⟨_, rfl⟩, rfl⟩

theorem witness_InvariantHoldsAfterReset : Config.ex.wf = true ∧ { Config.ex with flagW := 16 }.wf = true := by decide

/-- StepKeepsInvariant: in idle, and while shifting. -/
theorem witness_StepKeepsInvariant :
    (State.reset.withFetchWord 8 0b100001).Inv ∧ (∃ t, step (State.reset.withFetchWord 8 0b100001) = .next t) ∧
    (v43 id).Inv ∧ (∃ t, step ((v43 id).withFetchWord 8 0b100001) = .next t) := by
  refine ⟨by decide, ⟨_, rfl⟩, by decide, ⟨_, rfl⟩⟩

/-- UnselectedReadReturnsZero and UnselectedWriteIgnored: offsets -1 of copy 0 and 8 of copy 1, and the last bus address. -/
theorem witness_UnselectedReadReturnsZero : ∀ addr ∈ [0x6F, 0x80, 0xFFFF],
    Config.ex.wf = true ∧ addr < 2 ^ Config.ex.addrW ∧
    ∀ u, ¬(0 ≤ (addr : Int) - ((Config.ex.unit u).base : Int) ∧ (addr : Int) - ((Config.ex.unit u).base : Int) ≤ 7) := by
  intro addr h
  refine ⟨by decide, ?_, fun u => ?_⟩
  · fin_cases h <;> decide
  · fin_cases h <;> cases u <;> decide

theorem witness_UnselectedWriteIgnored : ∀ addr ∈ [0x6F, 0x80, 0xFFFF],
    Config.ex.wf = true ∧ addr < 2 ^ Config.ex.addrW ∧
    ∀ u, ¬(0 ≤ (addr : Int) - ((Config.ex.unit u).base : Int) ∧ (addr : Int) - ((Config.ex.unit u).base : Int) ≤ 7) :=
  witness_UnselectedReadReturnsZero

/-- WriteTctlSelectsClock: the four codes under EX (V6), bits outside the field not mattering. -/
theorem witness_WriteTctlSelectsClock :
    leaves0 (.wrTctl .usart0 0xCF 0) (s0 id) (fun x => x.clkSel == .B) ∧
    leaves0 (.wrTctl .usart0 0xDE 0) (s0 id) (fun x => x.clkSel == .A) ∧
    leaves0 (.wrTctl .usart0 0x20 0) (s0 id) (fun x => x.clkSel == .B) ∧
    leaves0 (.wrTctl .usart0 0x30 0) (s0 id) (fun x => x.clkSel == .B) := by decide

/-- RecomputeFormula: each side of each conditional (V20, V26, V28, V24, V25). -/
theorem witness_RecomputeFormula :
    (1 = if (0x00 : Byte).toNat + 256 * (0x00 : Byte).toNat = 0 then 1 else (0x00 : Byte).toNat + 256 * (0x00 : Byte).toNat) ∧
    (65535 = if (0xFF : Byte).toNat + 256 * (0xFF : Byte).toNat = 0 then 1 else (0xFF : Byte).toNat + 256 * (0xFF : Byte).toNat) ∧
    (32768 = if Clock.A = .A then Freqs.ex.fA else Freqs.ex.fB) ∧ (1000000 = if Clock.B = .A then Freqs.ex.fA else Freqs.ex.fB) ∧
    (1 = if 32768 / 32769 = 0 then 1 else 32768 / 32769) ∧ (1 = if 32768 / 32768 = 0 then 1 else 32768 / 32768) ∧
    (15 = if 1000000 / 65535 = 0 then 1 else 1000000 / 65535) := by decide

theorem witness_ZeroDivisorActsAsOne : State.reset.usart0.br0 = 0 ∧ State.reset.usart0.br1 = 0 := by decide

/-- ZeroBaudRateClampsToOne: the frequency one below the divisor (V24), and 0 (V37). -/
theorem witness_ZeroBaudRateClampsToOne :
    Freqs.ex.selected .A < divisor 0x01 0x80 ∧ ({ Freqs.ex with fA := 0 } : Freqs).selected .A < divisor 0 0 ∧
    ¬Freqs.ex.selected .A < divisor 0x00 0x80 := by decide

/-- GatedOffTxbufWriteDropped: the three rows of V12 with the gate false. -/
theorem witness_GatedOffTxbufWriteDropped :
    let off (spi rx : Bool) : Usart := { State.reset.usart0 with spiMode := spi, rxEnabled := rx }
    ((off false false).txEnabled = false ∧ ((off false false).spiMode = false ∨ (off false false).rxEnabled = false)) ∧
    ((off false true).txEnabled = false ∧ ((off false true).spiMode = false ∨ (off false true).rxEnabled = false)) ∧
    ((off true false).txEnabled = false ∧ ((off true false).spiMode = false ∨ (off true false).rxEnabled = false)) := by decide

/-- AcceptedTxbufWriteSubmits and LastTxbufWriteWins: each side of the gate, in idle, loaded and shifting. -/
theorem witness_AcceptedTxbufWriteSubmits :
    (tx8 id).usart0.txEnabled = true ∧ (tx8 id).usart0.txState = .idle ∧
    (let x := { State.reset.usart0 with spiMode := true, rxEnabled := true, txqValid := true }
     x.spiMode = true ∧ x.rxEnabled = true ∧ x.txState = .loaded) ∧
    (v43 id).usart0.txEnabled = true ∧ (v43 id).usart0.txState = .shifting := by decide

theorem witness_LastTxbufWriteWins : ((tx8 id).usart .usart0).txEnabled = true ∧ ((v43 id).usart .usart0).txEnabled = true := by decide

/-- TickMovesTheByte: the four states, each exactly at its target. -/
theorem witness_TickMovesTheByte :
    (State.reset.usart0.event = some 100 ∧ (100 : Nat) ≤ 100 ∧ State.reset.usart0.txsr = none ∧ State.reset.usart0.txqValid = false) ∧
    (let x := (tx8 fun x => { x with txqValid := true, event := some 3 }).usart0
     x.event = some 3 ∧ (3 : Nat) ≤ 3 ∧ x.txsr = none ∧ x.txqValid = true) ∧
    (let x := (v43 id).usart0
     x.event = some 12 ∧ (12 : Nat) ≤ 12 ∧ x.txsr = some 0x41 ∧ x.txqValid = false) ∧
    (let x := (v43 fun x => { x with txqValid := true }).usart0
     x.event = some 12 ∧ (12 : Nat) ≤ 12 ∧ x.txsr = some 0x41 ∧ x.txqValid = true) := by decide

/-- TickBeforeItsTargetRefused: no event (after V44), and one cycle early. -/
theorem witness_TickBeforeItsTargetRefused :
    (s0 fun x => { x with event := none }).usart0.event = none ∧ State.reset.usart0.event = some 100 ∧ 99 < 100 := by decide

theorem witness_TickInIdleOnlyRaisesFlag :
    State.reset.usart0.txState = .idle ∧ State.reset.usart0.event = some 100 ∧ (100 : Nat) ≤ 100 := by decide

/-- NotificationsComeFromTickAndRxbuf, TracesOnlyGrow: steps that append each kind of notification. -/
theorem witness_NotificationsComeFromTickAndRxbuf :
    (∃ t, exec (.tick .usart0 12) (v43 id) = .next t ∧ t.usart0.notes = [.byteAvailableForTransmit 0x41]) ∧
    (∃ t, exec (.rdRxbuf .usart0 12) (v43 id) = .next t ∧ t.usart0.notes = [.receiveFlagCleared]) := ⟨⟨_, rfl, rfl⟩, ⟨_, rfl, rfl⟩⟩

/-- OneByteTimeline: UART with transmit enabled, and SPI with receive enabled. -/
theorem witness_OneByteTimeline :
    (tx8 id).cfg.wf = true ∧ (tx8 id).usart0.txState = .idle ∧ (tx8 id).usart0.txEnabled = true ∧
    (let x := { State.reset.usart0 with spiMode := true, rxEnabled := true }
     x.txState = .idle ∧ x.spiMode = true ∧ x.rxEnabled = true) := by decide

theorem witness_DeliverLatchesWhenEnabled :
    State.reset.usart0.rxEnabled = false ∧ (s0 fun x => { x with rxEnabled := true }).usart0.rxEnabled = true := by decide

theorem witness_SecondDeliveryOverwrites :
    (s0 fun x => { x with rxEnabled := true }).cfg.wf = true ∧ (s0 fun x => { x with rxEnabled := true }).usart0.rxEnabled = true := by
  decide

/-- EnableNotificationSetsItsPath: the two keyed bits of copy 0 and the ones beside them. -/
theorem witness_EnableNotificationSetsItsPath :
    leaves0 (.enchg .usart0 7 true) (s0 id) (fun x => x.txEnabled && !x.rxEnabled) ∧
    leaves0 (.enchg .usart0 6 true) (s0 id) (fun x => !x.txEnabled && x.rxEnabled) ∧
    leaves0 (.enchg .usart0 8 true) (s0 id) (fun x => !x.txEnabled && !x.rxEnabled) ∧
    leaves0 (.enchg .usart0 5 true) (s0 id) (fun x => !x.txEnabled && !x.rxEnabled) := by decide

/-- FlagMatrix: a legal configuration and a next state for each row that writes a flag. -/
theorem witness_FlagMatrix :
    (v43 id).cfg.wf = true ∧ (∃ t, exec (.wrTxbuf .usart0 0x42 5) (v43 id) = .next t ∧ t.transmitReady .usart0 = false) ∧
    (∃ t, exec (.tick .usart0 12) (v43 id) = .next t ∧ t.transmitReady .usart0 = true ∧ t.usart0.txept t.cfg.unit0 = true) ∧
    (∃ t, exec (.reset .usart0 12) (v43 id) = .next t ∧ t.transmitReady .usart0 = false) := by
  exact ⟨by decide, ⟨_, rfl, by decide⟩, ⟨_, rfl, by decide, by decide⟩, ⟨_, rfl, by decide⟩⟩

/-- RegistersChangeOnlyByTheirOperation: for each register an operation that changes it. -/
theorem witness_RegistersChangeOnlyByTheirOperation :
    leaves0 (.wrCtl .usart0 1 0) (s0 id) (fun x => x.ctl != 0) ∧ leaves0 (.wrTctl .usart0 2 0) (s0 id) (fun x => x.tctl &&& 0xFE != 0) ∧
    leaves0 (.wrRctl .usart0 1 0) (s0 id) (fun x => x.rctl != 0) ∧ leaves0 (.wrMctl .usart0 1 0) (s0 id) (fun x => x.mctl != 0) ∧
    leaves0 (.wrBr0 .usart0 1 0) (s0 id) (fun x => x.br0 != 0) ∧ leaves0 (.wrBr1 .usart0 1 0) (s0 id) (fun x => x.br1 != 0) ∧
    leaves0 (.deliver .usart0 1 0) (s0 fun x => { x with rxEnabled := true }) (fun x => x.rxbuf != 0) ∧
    leaves0 (.wrTxbuf .usart0 1 0) (tx8 id) (fun x => x.txbuf != 0) := by decide

/-- ConfigurationChangesOnlyByItsOperations: an operation that changes each. -/
theorem witness_ConfigurationChangesOnlyByItsOperations :
    leaves0 (.wrTctl .usart0 0x10 0) (s0 id) (fun x => x.clkSel == .A && x.baudRate == 32768 && x.ticksPerByte == 244) ∧
    leaves0 (.wrCtl .usart0 4 0) (s0 id) (fun x => x.spiMode) ∧ leaves0 (.enchg .usart0 7 true) (s0 id) (fun x => x.txEnabled) ∧
    leaves0 (.reset .usart0 0) (tx8 fun x => { x with rxEnabled := true }) (fun x => !x.txEnabled && !x.rxEnabled) := by decide

/-- EngineMovedByThreeOperations: each of the three moves it. -/
theorem witness_EngineMovedByThreeOperations :
    leaves0 (.wrTxbuf .usart0 1 0) (tx8 id) (fun x => x.txState == .loaded) ∧
    leaves0 (.tick .usart0 12) (v43 id) (fun x => x.txState == .idle) ∧
    leaves0 (.reset .usart0 5) (v43 id) (fun x => x.txState == .idle && x.event == some 105) := by decide

/-- CopiesAreIsolated: an operation of copy 0 seen from copy 1, and an unselected access. -/
theorem witness_CopiesAreIsolated :
    (v43 id).cfg.wf = true ∧ (∃ t, exec (.tick .usart0 12) (v43 id) = .next t) ∧ targetOf (.tick .usart0 12) ≠ some .usart1 ∧
    (∃ t, exec (.wrNone 0 1 0) (v43 id) = .next t) ∧ targetOf (.wrNone 0 1 0) ≠ some .usart1 :=
  ⟨by decide, ⟨_, rfl⟩, by decide, ⟨_, rfl⟩, by decide⟩

/-- OperationsOfCopiesCommute: operations of the two copies, and two unselected accesses. -/
theorem witness_OperationsOfCopiesCommute :
    (v43 id).cfg.wf = true ∧
    (∀ u, ¬(targetOf (.tick .usart0 12) = some u ∧ targetOf (.reset .usart1 12) = some u)) ∧
    (∃ t, exec (.tick .usart0 12) (v43 id) = .next t) ∧ (∃ t, exec (.reset .usart1 12) (v43 id) = .next t) ∧
    (∀ u, ¬(targetOf (.rdNone 0 12) = some u ∧ targetOf (.wrNone 0 1 12) = some u)) ∧
    (∃ t, exec (.rdNone 0 12) (v43 id) = .next t) ∧ (∃ t, exec (.wrNone 0 1 12) (v43 id) = .next t) :=
  ⟨by decide, by rintro (_ | _) <;> decide, ⟨_, rfl⟩, ⟨_, rfl⟩, by rintro (_ | _) <;> decide, ⟨_, rfl⟩, ⟨_, rfl⟩⟩

theorem witness_FlagRegisterIsNeverRead : ∃ t, exec (.tick .usart0 12) (v43 id) = .next t := ⟨_, rfl⟩

/-- EnableRegisterOnlyChoosesADiagnostic: the operation that reads `IE`, and one that notifies. -/
theorem witness_EnableRegisterOnlyChoosesADiagnostic :
    (∃ t, exec (.deliver .usart0 0x55 1) (s0 fun x => { x with rxEnabled := true }) = .next t) ∧
    (∃ t, exec (.tick .usart0 12) (v43 id) = .next t ∧ t.usart0.notes ≠ []) := ⟨⟨_, rfl⟩, ⟨_, rfl, by decide⟩⟩

theorem witness_TracesOnlyGrow : ∃ t, step (State.reset.withFetchWord 8 0b000110) = .next t ∧ t.usart0.notes = [.receiveFlagCleared] :=
  ⟨_, rfl, rfl⟩

theorem witness_TracesAreNeverRead :
    (v43 id).withoutTraces = (v43 fun x => { x with notes := [.receiveFlagCleared] }).withoutTraces ∧
    (∃ t, exec (.tick .usart0 12) (v43 id) = .next t) := ⟨rfl, ⟨_, rfl⟩⟩

theorem witness_CounterNeverDecreases : ∃ t, step (State.reset.withFetchWord 8 0b100001) = .next t ∧ t.cycle = 100 := ⟨_, rfl, rfl⟩

/-- BusWriteTouchesItsByte: the first and last slot, the gate open (TXEPT cleared in TCTL) and shut, and TCTL (V5). -/
theorem witness_BusWriteTouchesItsByte :
    (tx8 id).cfg.wf = true ∧
    leaves (.wrCtl .usart0 0x5A 1) (tx8 id) (fun t => t.busByte 0x70 == 0x5A && t.busByte 0x71 == (tx8 id).busByte 0x71) ∧
    leaves (.wrTxbuf .usart0 0x5A 1) (tx8 id) (fun t => t.busByte 0x77 == 0x5A && t.busByte 0x76 == 0 && t.busByte 0x71 == 0) ∧
    leaves (.wrTctl .usart0 0xFE 1) (s0 id) (fun t => t.busByte 0x71 == 0xFF && t.busByte 0x70 == 0) ∧
    leaves (.wrTxbuf .usart0 0x5A 1) (s0 id) (fun t => t.busByte 0x77 == 0 && t.busByte 0x71 == 1) := by decide

end Sys2Proof.Tests
end

section
/-! SUPPORT. What a step of the machine can do, with every guard, said once for the proofs about every step. -/

namespace Sys2Proof.Machine

/-- Every way a step leads on from `s`: the host is idle, presents an operation, or changes a register of its own (log 5). -/
inductive StepsTo (s : State) : State → Prop
  | idle : s.inputs = [] → StepsTo s s
  | operation (r : Request) (rest : List Input) (i : Instr) : s.inputs = .request r :: rest → decode s.cfg r = .ok i →
      s.cycle ≤ s.counterAt i → Performable i s →
      StepsTo s (effect i { s with inputs := rest, cycle := s.counterAt i })
  | writeIfg (v : Nat) (rest : List Input) : s.inputs = .writeIfg v :: rest →
      StepsTo s { s with inputs := rest, ifg := v % 2 ^ s.cfg.flagW }
  | writeIe (v : Nat) (rest : List Input) : s.inputs = .writeIe v :: rest →
      StepsTo s { s with inputs := rest, ie := v % 2 ^ s.cfg.flagW }
  | setFreqs (f : Freqs) (rest : List Input) : s.inputs = .setFreqs f :: rest →
      StepsTo s { s with inputs := rest, freqs := f }

/-- Whether an operation may be performed depends on the pending events alone. -/
theorem performable_congr {i : Instr} {s t : State} (h : ∀ u, (s.usart u).event = (t.usart u).event) :
    Performable i s ↔ Performable i t := by
  cases i with
  | tick u n => simp only [Performable, Usart.tickDue_iff, h]
  | _ => exact Iff.rfl

theorem stepsTo_of_step {s t : State} (h : step s = .next t) : StepsTo s t := by
  obtain ⟨-, ⟨hnil, rfl⟩ | ⟨e, rest, hcons, happly⟩⟩ := step_next h
  · exact .idle hnil
  · obtain ⟨r, i, rfl, hdec, hperf⟩ | ⟨v, rfl, rfl⟩ | ⟨v, rfl, rfl⟩ | ⟨f, rfl, rfl⟩ := applyInput_next happly
    · obtain ⟨hcycle, hexec⟩ := perform_next hperf
      obtain ⟨hp, rfl⟩ := exec_next hexec
      exact .operation r rest i hcons hdec hcycle ((performable_congr fun u => by simp).mp hp)
    · exact .writeIfg v rest hcons
    · exact .writeIe v rest hcons
    · exact .setFreqs f rest hcons

theorem step_of_inputs_nil {s : State} (hw : s.cfg.wf = true) (h : s.inputs = []) : step s = .next s := by
  simp [step, runNext, hw, h]

theorem step_of_inputs_cons {s : State} {e : Input} {rest : List Input} (hw : s.cfg.wf = true) (h : s.inputs = e :: rest) :
    step s = applyInput e { s with inputs := rest } := by
  simp [step, runNext, hw, h]

/-- Either copy after an operation, in one equation. -/
theorem usart_effect (i : Instr) (s : State) (u : UsartId) :
    (effect i s).usart u =
      if u = copyOf i then copyEffect i s.freqs s.ie (s.cfg.unit u) (s.usart u) else s.usart u := by
  split
  · next h => subst h; exact usart_effect_same i s
  · next h => exact usart_effect_ne i s h

/-- Settles O7: each host change is one arm of `applyInput`. -/
theorem hostChangesTouchOnlyTheirRegister : Obligations.HostChangesTouchOnlyTheirRegister := by
  intro s rest v f hw
  exact ⟨step_of_inputs_nil hw, step_of_inputs_cons hw, step_of_inputs_cons hw, step_of_inputs_cons hw⟩

/-- Settles O51: the counter moves to a stamp that is not before it, and nothing writes the configuration. -/
theorem counterNeverDecreases : Obligations.CounterNeverDecreases := by
  intro s t h
  cases stepsTo_of_step h with
  | operation r rest i hin hdec hcycle => exact ⟨by simpa using hcycle, by simp⟩
  | _ => exact ⟨le_rfl, rfl⟩

end Sys2Proof.Machine
end

section
/-! SUPPORT. The invariant of one copy (10_state.md R35, R39): every operation's effect keeps it. -/

namespace Sys2Proof.Machine

section
variable {c : UnitConfig} {x y : Usart}

/-- The invariant reads TXEPT, the two valid bits, the event, CTL and `spi_mode`. -/
theorem Usart.Consistent.congr (h : x.Consistent c) (hept : y.txept c = x.txept c) (hsr : y.txsr = x.txsr)
    (hq : y.txqValid = x.txqValid) (hev : y.event = x.event) (hspi : y.spiMode = x.spiMode) (hctl : y.ctl = x.ctl) :
    y.Consistent c := by
  have hst : y.txState = x.txState := by simp only [Usart.txState, hsr, hq]
  simpa only [Usart.Consistent, hept, hst, hev, hspi, hctl] using h

theorem Usart.consistent_of_idle (hst : x.txState = .idle) (hept : x.txept c = true) (hspi : x.spiMode = spiBit c x.ctl) :
    x.Consistent c := ⟨iff_of_true hept hst, fun h => absurd hst h, hspi⟩

theorem Usart.consistent_of_busy (hst : x.txState ≠ .idle) (hept : x.txept c = false) (hev : x.event.isSome = true)
    (hspi : x.spiMode = spiBit c x.ctl) : x.Consistent c := ⟨iff_of_false (by simp [hept]) hst, fun _ => hev, hspi⟩

theorem Usart.Consistent.txept_eq_false (h : x.Consistent c) (hst : x.txState ≠ .idle) : x.txept c = false :=
  eq_false_of_ne_true (mt h.1.mp hst)

theorem Usart.Consistent.writeCtl (h : x.Consistent c) (w : Byte) :
    { x with ctl := w, spiMode := spiBit c w }.Consistent c := ⟨h.1, h.2.1, rfl⟩

theorem Usart.Consistent.writeTctl (h : x.Consistent c) (w : Byte) (k : Clock) (f : Freqs) :
    ({ x with tctl := storedTctl c x.tctl w, clkSel := k }.recompute f).Consistent c := by
  refine h.congr ?_ rfl rfl rfl rfl rfl
  simp only [Usart.txept, anySet, Usart.tctl_recompute, storedTctl_txept]

/-- An accepted byte ends idle: TXEPT is cleared, and the load event is scheduled in the one state that may lack an event. -/
theorem Usart.Consistent.submit (h : x.Consistent c) (b : Byte) (cycle : Nat) : (x.submit c b cycle).Consistent c := by
  obtain ⟨-, hev, hspi⟩ := h
  refine Usart.consistent_of_busy ?_ ?_ ?_ ?_
  · simp [Usart.txState_idle_iff]
  · simpa [Usart.txept] using x.txept_clearTxept c
  · rw [Usart.event_submit]
    split
    · rfl
    · exact hev ‹_›
  · simpa using hspi

/-- A TICK that finds a byte queued leaves the copy shifting, with the next event; one that finds none leaves it idle, and
sets TXEPT unless it was idle before. -/
theorem Usart.Consistent.tick (h : x.Consistent c) (hm : c.txeptMask ≠ 0) (t : Nat) : (x.tick c t).Consistent c := by
  have ⟨hidle, _, hspi⟩ := h
  rw [Usart.txState_idle_iff] at hidle
  cases hq : x.txqValid with
  | true =>
    have hept : x.txept c = false := h.txept_eq_false (by simp [Usart.txState_idle_iff, hq])
    refine Usart.consistent_of_busy ?_ ?_ ?_ ?_
    · simp [Usart.txState_idle_iff, hq]
    · simpa [Usart.txept, hq] using hept
    · simp [hq]
    · simpa using hspi
  | false =>
    refine Usart.consistent_of_idle ?_ ?_ ?_
    · simp [Usart.txState_idle_iff, hq]
    · cases hsr : x.txsr with
      | none =>
        rw [Usart.tick_idle c t hsr hq]
        exact hidle.mpr ⟨hsr, hq⟩
      | some b =>
        rw [Usart.tick_done c t hsr hq]
        exact Usart.txept_setTxept (x := x) hm
    · simpa using hspi

theorem Usart.consistent_resetAt (hm : c.txeptMask ≠ 0) (hspi : x.spiMode = spiBit c x.ctl) (cycle : Nat) :
    (x.resetAt c cycle).Consistent c := by
  refine Usart.consistent_of_idle ?_ ?_ hspi
  · simp [Usart.txState_idle_iff]
  · simpa [Usart.txept] using Usart.txept_setTxept (x := x) hm

/-- No operation's effect breaks the invariant of the copy. -/
theorem Usart.consistent_copyEffect (h : x.Consistent c) (hm : c.txeptMask ≠ 0) (i : Instr) (f : Freqs) (ie : Nat) :
    (copyEffect i f ie c x).Consistent c := by
  cases i with
  | wrCtl u w n => exact h.writeCtl w
  | wrTctl u w n => exact h.writeTctl w _ f
  | wrTxbuf u w n =>
    simp only [copyEffect]
    split
    · exact h.submit w n
    · exact h.congr rfl rfl rfl rfl rfl rfl
  | rdRxbuf u n =>
    simp only [copyEffect, Usart.notify_eq]
    exact h.congr rfl rfl rfl rfl rfl rfl
  | reset u n => exact Usart.consistent_resetAt hm h.2.2 n
  | tick u t => exact h.tick hm t
  | deliver u b n =>
    simp only [copyEffect]
    split
    · exact h.congr rfl rfl rfl rfl rfl rfl
    · exact h
  | enchg u bit on =>
    simp only [copyEffect, Usart.enableChange_eq]
    exact h.congr rfl rfl rfl rfl rfl rfl
  | _ => exact h.congr rfl rfl rfl rfl rfl rfl

end

theorem txeptMask_ne_zero {c : Config} (hw : c.wf = true) (u : UsartId) : (c.unit u).txeptMask ≠ 0 := by
  obtain ⟨-, -, -, -, -, -, -, -, -, hm⟩ := UnitConfig.wf_facts (Config.wf_unit hw u)
  exact hm

theorem inv_effect {s : State} (h : s.Inv) (i : Instr) : (effect i s).Inv := by
  rw [State.inv_iff] at h ⊢
  obtain ⟨hw, hu, hifg, hie⟩ := h
  obtain ⟨-, -, htx, -, hrx, -⟩ := UnitConfig.wf_facts (Config.wf_unit hw (copyOf i))
  refine ⟨by simpa using hw, fun u => ?_, ?_, by simpa using hie⟩
  · rw [cfg_effect, usart_effect]
    split
    · exact Usart.consistent_copyEffect (hu u) (txeptMask_ne_zero hw u) i s.freqs s.ie
    · exact hu u
  · rw [cfg_effect, ifg_effect]
    exact flagEffect_lt hifg htx hrx

/-- Settles O12: an operation keeps both copies consistent and `IFG` within its width; the host's own writes are truncated. -/
theorem stepKeepsInvariant : Obligations.StepKeepsInvariant := by
  intro s t h hstep
  have ⟨hw, h0, h1, hifg, hie⟩ := h
  cases stepsTo_of_step hstep with
  | idle => exact h
  | operation r rest i => exact inv_effect (s := { s with inputs := rest, cycle := s.counterAt i }) h i
  | writeIfg v => exact ⟨hw, h0, h1, Nat.mod_lt _ (Nat.two_pow_pos _), hie⟩
  | writeIe v => exact ⟨hw, h0, h1, hifg, Nat.mod_lt _ (Nat.two_pow_pos _)⟩
  | setFreqs f => exact h

/-- The reset state of a copy is that of RESET at power-on (70_reset_and_hazards.md R254). -/
theorem Usart.afterReset_eq_resetAt (c : UnitConfig) (cycle : Nat) :
    Usart.afterReset c cycle = (Usart.powerOn c).resetAt c cycle := by
  simp [Usart.afterReset, Usart.powerOn, Usart.resetAt, Usart.setTxept, Usart.sched, startupTarget]

theorem Usart.consistent_afterReset {c : UnitConfig} (hm : c.txeptMask ≠ 0) (cycle : Nat) :
    (Usart.afterReset c cycle).Consistent c := by
  rw [Usart.afterReset_eq_resetAt]
  exact Usart.consistent_resetAt hm (by simp [Usart.powerOn, spiBit, anySet]) cycle

theorem inv_afterReset {cfg : Config} (hw : cfg.wf = true) (f : Freqs) (cycle : Nat) : (State.afterReset cfg f cycle).Inv :=
  ⟨hw, Usart.consistent_afterReset (txeptMask_ne_zero hw .usart0) cycle,
    Usart.consistent_afterReset (txeptMask_ne_zero hw .usart1) cycle, Nat.two_pow_pos _, Nat.two_pow_pos _⟩

/-- Settles O11: RESET leaves each copy idle with TXEPT set; `State.reset` is the case of EX, which is legal. -/
theorem invariantHoldsAfterReset : Obligations.InvariantHoldsAfterReset :=
  ⟨inv_afterReset (by decide) Freqs.ex 0, fun _ f cycle hw => inv_afterReset hw f cycle⟩

end Sys2Proof.Machine
end

section
/-! SUPPORT. Who may write each field: for a field of a copy, the operations whose effect can change it (10_state.md R20 to
R29, R39 to R43; 41_baud_clock.md R166). -/

namespace Sys2Proof.Machine

/-- Setting TXEPT is not seen outside its mask. -/
theorem or_and_not_same (v m : Byte) : (v ||| m) &&& ~~~m = v &&& ~~~m := by
  ext b
  simp only [BitVec.getElem_and, BitVec.getElem_or, BitVec.getElem_not]
  cases m[b] <;> simp

/-- Clearing TXEPT is not seen outside its mask. -/
theorem and_not_and_not_same (v m : Byte) : v &&& ~~~m &&& ~~~m = v &&& ~~~m := by
  rw [BitVec.and_assoc, BitVec.and_self]

section
variable {i : Instr} {f : Freqs} {ie : Nat} {c : UnitConfig} {x : Usart}

theorem wrCtl_of_ctl_ne (h : (copyEffect i f ie c x).ctl ≠ x.ctl) : ∃ w n, i = .wrCtl (copyOf i) w n := by
  cases i with
  | wrCtl u w n => exact ⟨w, n, rfl⟩
  | _ => exact absurd (by simp [copyEffect, apply_ite Usart.ctl]) h

theorem wrTctl_of_tctl_ne (h : (copyEffect i f ie c x).tctl &&& ~~~c.txeptMask ≠ x.tctl &&& ~~~c.txeptMask) :
    ∃ w n, i = .wrTctl (copyOf i) w n := by
  cases i with
  | wrTctl u w n => exact ⟨w, n, rfl⟩
  | wrTxbuf u w n =>
    refine absurd ?_ h
    simp only [copyEffect]
    split <;> simp [and_not_and_not_same]
  | tick u t =>
    refine absurd ?_ h
    simp only [copyEffect, Usart.tctl_tick]
    split
    · exact or_and_not_same ..
    · rfl
  | reset u n => exact absurd (or_and_not_same ..) h
  | _ => exact absurd (by simp [copyEffect, apply_ite Usart.tctl]) h

theorem wrRctl_of_rctl_ne (h : (copyEffect i f ie c x).rctl ≠ x.rctl) : ∃ w n, i = .wrRctl (copyOf i) w n := by
  cases i with
  | wrRctl u w n => exact ⟨w, n, rfl⟩
  | _ => exact absurd (by simp [copyEffect, apply_ite Usart.rctl]) h

theorem wrMctl_of_mctl_ne (h : (copyEffect i f ie c x).mctl ≠ x.mctl) : ∃ w n, i = .wrMctl (copyOf i) w n := by
  cases i with
  | wrMctl u w n => exact ⟨w, n, rfl⟩
  | _ => exact absurd (by simp [copyEffect, apply_ite Usart.mctl]) h

theorem wrBr0_of_br0_ne (h : (copyEffect i f ie c x).br0 ≠ x.br0) : ∃ w n, i = .wrBr0 (copyOf i) w n := by
  cases i with
  | wrBr0 u w n => exact ⟨w, n, rfl⟩
  | _ => exact absurd (by simp [copyEffect, apply_ite Usart.br0]) h

theorem wrBr1_of_br1_ne (h : (copyEffect i f ie c x).br1 ≠ x.br1) : ∃ w n, i = .wrBr1 (copyOf i) w n := by
  cases i with
  | wrBr1 u w n => exact ⟨w, n, rfl⟩
  | _ => exact absurd (by simp [copyEffect, apply_ite Usart.br1]) h

theorem deliver_of_rxbuf_ne (h : (copyEffect i f ie c x).rxbuf ≠ x.rxbuf) :
    x.rxEnabled = true ∧ ∃ b n, i = .deliver (copyOf i) b n := by
  cases i with
  | deliver u b n =>
    refine ⟨?_, b, n, rfl⟩
    by_contra hoff
    exact h (by simp [copyEffect, hoff])
  | _ => exact absurd (by simp [copyEffect, apply_ite Usart.rxbuf]) h

theorem wrTxbuf_of_txbuf_ne (h : (copyEffect i f ie c x).txbuf ≠ x.txbuf) :
    x.txGate = true ∧ ∃ w n, i = .wrTxbuf (copyOf i) w n := by
  cases i with
  | wrTxbuf u w n =>
    refine ⟨?_, w, n, rfl⟩
    by_contra hshut
    exact h (by simp [copyEffect, hshut])
  | _ => exact absurd (by simp [copyEffect, apply_ite Usart.txbuf]) h

theorem recomputingWrite_of_rate_ne
    (h : (copyEffect i f ie c x).baudRate ≠ x.baudRate ∨ (copyEffect i f ie c x).ticksPerByte ≠ x.ticksPerByte) :
    ∃ w n, i = .wrTctl (copyOf i) w n ∨ i = .wrBr0 (copyOf i) w n ∨ i = .wrBr1 (copyOf i) w n := by
  cases i with
  | wrTctl u w n => exact ⟨w, n, .inl rfl⟩
  | wrBr0 u w n => exact ⟨w, n, .inr (.inl rfl)⟩
  | wrBr1 u w n => exact ⟨w, n, .inr (.inr rfl)⟩
  | _ => simp [copyEffect, apply_ite Usart.baudRate, apply_ite Usart.ticksPerByte] at h

theorem wrTctl_of_clkSel_ne (h : (copyEffect i f ie c x).clkSel ≠ x.clkSel) : ∃ w n, i = .wrTctl (copyOf i) w n := by
  cases i with
  | wrTctl u w n => exact ⟨w, n, rfl⟩
  | _ => exact absurd (by simp [copyEffect, apply_ite Usart.clkSel]) h

theorem wrCtl_of_spiMode_ne (h : (copyEffect i f ie c x).spiMode ≠ x.spiMode) : ∃ w n, i = .wrCtl (copyOf i) w n := by
  cases i with
  | wrCtl u w n => exact ⟨w, n, rfl⟩
  | _ => exact absurd (by simp [copyEffect, apply_ite Usart.spiMode]) h

theorem enchg_or_reset_of_txEnabled_ne (h : (copyEffect i f ie c x).txEnabled ≠ x.txEnabled) :
    (∃ on, i = .enchg (copyOf i) c.txEnBit on) ∨ ∃ n, i = .reset (copyOf i) n := by
  cases i with
  | enchg u bit on =>
    by_cases hb : bit = c.txEnBit
    · exact .inl ⟨on, by rw [hb]; rfl⟩
    · exact absurd (by simp [copyEffect, hb]) h
  | reset u n => exact .inr ⟨n, rfl⟩
  | _ => exact absurd (by simp [copyEffect, apply_ite Usart.txEnabled]) h

theorem enchg_or_reset_of_rxEnabled_ne (h : (copyEffect i f ie c x).rxEnabled ≠ x.rxEnabled) :
    (∃ on, i = .enchg (copyOf i) c.rxEnBit on) ∨ ∃ n, i = .reset (copyOf i) n := by
  cases i with
  | enchg u bit on =>
    by_cases hb : bit = c.rxEnBit
    · exact .inl ⟨on, by rw [hb]; rfl⟩
    · exact absurd (by simp [copyEffect, hb]) h
  | reset u n => exact .inr ⟨n, rfl⟩
  | _ => exact absurd (by simp [copyEffect, apply_ite Usart.rxEnabled]) h

end

/-- Settles O42: the addressed copy, register by register; the other copy is untouched. -/
theorem registersChangeOnlyByTheirOperation : Obligations.RegistersChangeOnlyByTheirOperation := by
  intro i s t u hexec
  obtain ⟨-, rfl⟩ := exec_next hexec
  by_cases hu : u = copyOf i
  · subst hu
    rw [usart_effect_same]
    exact ⟨wrCtl_of_ctl_ne, wrTctl_of_tctl_ne, wrRctl_of_rctl_ne, wrMctl_of_mctl_ne, wrBr0_of_br0_ne, wrBr1_of_br1_ne,
      deliver_of_rxbuf_ne, wrTxbuf_of_txbuf_ne⟩
  · simp [usart_effect_ne i s hu]

/-- Settles O43: the addressed copy, field by field; the other copy is untouched. -/
theorem configurationChangesOnlyByItsOperations : Obligations.ConfigurationChangesOnlyByItsOperations := by
  intro i s t u hexec
  obtain ⟨-, rfl⟩ := exec_next hexec
  by_cases hu : u = copyOf i
  · subst hu
    rw [usart_effect_same]
    exact ⟨recomputingWrite_of_rate_ne, wrTctl_of_clkSel_ne, wrCtl_of_spiMode_ne, enchg_or_reset_of_txEnabled_ne,
      enchg_or_reset_of_rxEnabled_ne⟩
  · simp [usart_effect_ne i s hu]

end Sys2Proof.Machine
end

section
/-! SUPPORT. What no operation reads: `IFG`, `IE` but for a diagnostic, and the traces, which only grow (10_state.md R47, R48). -/

namespace Sys2Proof.Machine

/-! ## A state without its traces -/

@[simp] theorem State.cfg_withoutTraces (s : State) : s.withoutTraces.cfg = s.cfg := rfl
@[simp] theorem State.ifg_withoutTraces (s : State) : s.withoutTraces.ifg = s.ifg := rfl
@[simp] theorem State.ie_withoutTraces (s : State) : s.withoutTraces.ie = s.ie := rfl
@[simp] theorem State.freqs_withoutTraces (s : State) : s.withoutTraces.freqs = s.freqs := rfl
@[simp] theorem State.cycle_withoutTraces (s : State) : s.withoutTraces.cycle = s.cycle := rfl
@[simp] theorem State.rdata_withoutTraces (s : State) : s.withoutTraces.rdata = s.rdata := rfl
@[simp] theorem State.inputs_withoutTraces (s : State) : s.withoutTraces.inputs = s.inputs := rfl

@[simp] theorem State.cfg_withoutDiagnostics (s : State) : s.withoutDiagnostics.cfg = s.cfg := rfl
@[simp] theorem State.ifg_withoutDiagnostics (s : State) : s.withoutDiagnostics.ifg = s.ifg := rfl
@[simp] theorem State.ie_withoutDiagnostics (s : State) : s.withoutDiagnostics.ie = s.ie := rfl
@[simp] theorem State.freqs_withoutDiagnostics (s : State) : s.withoutDiagnostics.freqs = s.freqs := rfl
@[simp] theorem State.cycle_withoutDiagnostics (s : State) : s.withoutDiagnostics.cycle = s.cycle := rfl
@[simp] theorem State.rdata_withoutDiagnostics (s : State) : s.withoutDiagnostics.rdata = s.rdata := rfl
@[simp] theorem State.inputs_withoutDiagnostics (s : State) : s.withoutDiagnostics.inputs = s.inputs := rfl

/-! ## Traces only grow -/

theorem notes_grow_copyEffect (i : Instr) (f : Freqs) (ie : Nat) (c : UnitConfig) (x : Usart) :
    x.notes <+: (copyEffect i f ie c x).notes := by
  cases i with
  | rdRxbuf u n => simp [copyEffect]
  | tick u t => simp [copyEffect]
  | _ => simp [copyEffect, apply_ite Usart.notes]

theorem diags_grow_copyEffect (i : Instr) (f : Freqs) (ie : Nat) (c : UnitConfig) (x : Usart) :
    x.diags <+: (copyEffect i f ie c x).diags := by
  cases i with
  | wrTxbuf u w n => simp only [copyEffect]; split <;> simp
  | deliver u b n => simp only [copyEffect]; split <;> simp
  | _ => simp [copyEffect]

theorem traces_grow_effect (i : Instr) (s : State) (u : UsartId) :
    (s.usart u).notes <+: ((effect i s).usart u).notes ∧ (s.usart u).diags <+: ((effect i s).usart u).diags := by
  rw [usart_effect]
  split
  · exact ⟨notes_grow_copyEffect .., diags_grow_copyEffect ..⟩
  · simp

/-- Settles O49: an operation appends, the host's own changes leave the traces alone. -/
theorem tracesOnlyGrow : Obligations.TracesOnlyGrow := by
  intro s t u h
  cases stepsTo_of_step h with
  | operation r rest i => simpa using traces_grow_effect i { s with inputs := rest, cycle := s.counterAt i } u
  | _ => simp

/-! ## Registers of the host that no operation reads -/

/-- Another `IFG` gives the same effect, `IFG` apart. -/
theorem effect_ifg_apart (i : Instr) (s : State) (v : Nat) :
    { effect i { s with ifg := v } with ifg := (effect i s).ifg } = effect i s := by
  refine State.ext_usart ?_ (fun u => ?copy) ?_ ?_ ?_ ?_ ?_ ?_
  case copy => rw [State.usart_mk, usart_effect, usart_effect, State.usart_mk]
  all_goals simp

/-- Settles O47: the effect on a copy and the answer do not mention `IFG`. -/
theorem flagRegisterIsNeverRead : Obligations.FlagRegisterIsNeverRead := by
  intro i s t v hexec
  obtain ⟨hp, rfl⟩ := exec_next hexec
  have hp' : Performable i { s with ifg := v } := (performable_congr fun u => by simp).mp hp
  exact ⟨_, exec_eq_effect hp', effect_ifg_apart i s v⟩

/-- Another `IE` gives the same effect, diagnostic traces apart (43_receive_and_flag_bridge.md R203). -/
theorem effect_withoutDiagnostics_ie (i : Instr) (s : State) (v : Nat) :
    { (effect i { s with ie := v }).withoutDiagnostics with ie := s.ie } = (effect i s).withoutDiagnostics := by
  refine State.ext_usart ?_ (fun u => ?copy) ?_ ?_ ?_ ?_ ?_ ?_
  case copy =>
    rw [State.usart_mk, State.usart_withoutDiagnostics, State.usart_withoutDiagnostics, usart_effect, usart_effect]
    split
    · simpa using copyEffect_ie i s.freqs v s.ie _ _
    · simp
  all_goals simp

/-- Settles O48: `IE` reaches nothing but the effect on the copy, and there the diagnostic trace alone. -/
theorem enableRegisterOnlyChoosesADiagnostic : Obligations.EnableRegisterOnlyChoosesADiagnostic := by
  intro i s t v hexec
  obtain ⟨hp, rfl⟩ := exec_next hexec
  have hp' : Performable i { s with ie := v } := (performable_congr fun u => by simp).mp hp
  exact ⟨_, exec_eq_effect hp', effect_withoutDiagnostics_ie i s v⟩

/-! ## The traces are not read -/

/-- The effect on a copy, its traces apart, is the same when the copy's traces are dropped first. -/
theorem copyEffect_withoutTraces (i : Instr) (f : Freqs) (ie : Nat) (c : UnitConfig) (x : Usart) :
    (copyEffect i f ie c x.withoutTraces).withoutTraces = (copyEffect i f ie c x).withoutTraces := by
  cases i with
  | wrTxbuf u w n =>
    have hgate : x.withoutTraces.txGate = x.txGate := rfl
    simp only [copyEffect, hgate, Usart.submit_eq]
    split <;> rfl
  | rdRxbuf u n => simp only [copyEffect, Usart.notify_eq]; rfl
  | tick u t => simp only [copyEffect, Usart.tick_eq]; rfl
  | deliver u b n =>
    by_cases hon : x.rxEnabled = true <;> simp only [copyEffect, Usart.rxEnabled_withoutTraces, hon] <;> rfl
  | enchg u bit on => simp only [copyEffect, Usart.enableChange_eq]; rfl
  | _ => rfl

theorem flagEffect_withoutTraces (i : Instr) (c : UnitConfig) (x : Usart) (v : Nat) :
    flagEffect i c x.withoutTraces v = flagEffect i c x v := by
  cases i <;> rfl

theorem answerOf_withoutTraces (i : Instr) (x : Usart) : answerOf i x.withoutTraces = answerOf i x := by
  cases i <;> rfl

theorem performable_withoutTraces (i : Instr) (s : State) : Performable i s.withoutTraces ↔ Performable i s :=
  performable_congr fun u => by rw [State.usart_withoutTraces, Usart.event_withoutTraces]

/-- The effect of an operation, traces apart, is that on the state without its traces. -/
theorem effect_withoutTraces (i : Instr) (s : State) :
    (effect i s.withoutTraces).withoutTraces = (effect i s).withoutTraces := by
  refine State.ext_usart ?_ (fun u => ?copy) ?_ ?_ ?_ ?_ ?_ ?_
  case copy =>
    simp only [State.usart_withoutTraces, usart_effect]
    split
    · exact copyEffect_withoutTraces i s.freqs s.ie _ _
    · rfl
  all_goals simp [State.usart_withoutTraces, flagEffect_withoutTraces, answerOf_withoutTraces]

/-- Settles O50: both runs are the run without traces. -/
theorem tracesAreNeverRead : Obligations.TracesAreNeverRead := by
  intro i s s' t hs hexec
  obtain ⟨hp, rfl⟩ := exec_next hexec
  have hp' : Performable i s' := by
    rw [← performable_withoutTraces, ← hs, performable_withoutTraces]
    exact hp
  refine ⟨_, exec_eq_effect hp', ?_⟩
  calc (effect i s).withoutTraces
      = (effect i s.withoutTraces).withoutTraces := (effect_withoutTraces i s).symm
    _ = (effect i s'.withoutTraces).withoutTraces := by rw [hs]
    _ = (effect i s').withoutTraces := effect_withoutTraces i s'

end Sys2Proof.Machine
end

section
/-! SUPPORT. The address space of the block and the host's accesses to it (20_memory.md): which address selects which
register, what a presented request makes a step do, what a bus access leaves in each byte, and the divisor written by halves. -/

/-! ## The address decoder (R61) -/

namespace Sys2Proof

theorem exists_slot_offset {n : Nat} (h : n ≤ 7) : ∃ sl : Slot, sl.offset = n := by
  have hs : slotAt n ≠ none := fun hnone => slotAt_eq_none.mp hnone ⟨by omega, by omega⟩
  obtain ⟨sl, hsl⟩ := Option.ne_none_iff_exists'.mp hs
  exact ⟨sl, Int.ofNat_inj.mp (slotAt_eq_some.mp hsl).symm⟩

/-- In a legal configuration an address selects a copy exactly inside that copy's window. -/
theorem Config.exists_select_iff {c : Config} (hw : c.wf = true) (u : UsartId) (addr : Nat) :
    (∃ sl, c.select addr = some (u, sl)) ↔ (c.unit u).base ≤ addr ∧ addr ≤ (c.unit u).base + 7 := by
  simp only [Config.select_iff hw, Config.addrOf]
  constructor
  · rintro ⟨sl, rfl⟩
    have := sl.offset_le
    omega
  · rintro ⟨hlo, hhi⟩
    obtain ⟨sl, hsl⟩ := exists_slot_offset (n := addr - (c.unit u).base) (by omega)
    exact ⟨sl, by omega⟩

end Sys2Proof

namespace Sys2Proof.Machine

/-- Settles O5: a register's address is BASE plus its slot's offset, and the offsets fill 0 to 7. -/
theorem addressSelectsByOffset : Obligations.AddressSelectsByOffset := by
  intro c u addr hw
  refine ⟨fun sl => ?slot, ?window, fun hbase => ⟨?aligned, fun sl hsl => ?low⟩⟩
  case slot =>
    rw [Config.select_iff hw, Config.addrOf]
    omega
  case window =>
    rw [Config.exists_select_iff hw]
    omega
  case aligned =>
    rw [Config.exists_select_iff hw]
    omega
  case low =>
    have haddr : addr = (c.unit u).base + sl.offset := (Config.select_iff hw).mp hsl
    have := sl.offset_le
    omega

/-! ## A presented request (R72, R73) -/

theorem applyInput_of_decode {s : State} {r : Request} {i : Instr} (h : decode s.cfg r = .ok i) :
    applyInput (.request r) s = perform i s := by
  simp only [applyInput, h]

theorem perform_of_le {s : State} {i : Instr} (h : s.cycle ≤ s.counterAt i) :
    perform i s = exec i { s with cycle := s.counterAt i } := if_pos h

/-- Settles O6: the host's action is the request, its decoding is `i`, and the stamp is not refused. -/
theorem stepPerformsDecoded : Obligations.StepPerformsDecoded := by
  intro s r rest i hw hin hdec hcycle
  calc step s
      = applyInput (.request r) { s with inputs := rest } := step_of_inputs_cons hw hin
    _ = perform i { s with inputs := rest } := applyInput_of_decode hdec
    _ = exec i { s with inputs := rest, cycle := s.counterAt i } := perform_of_le hcycle

/-! ## The bytes of the address space (R62, R69) -/

theorem State.busByte_addrOf {s : State} (hw : s.cfg.wf = true) (u : UsartId) (sl : Slot) :
    s.busByte (s.cfg.addrOf u sl) = (s.usart u).slot sl := by
  have hsel : s.cfg.select (s.cfg.addrOf u sl) = some (u, sl) := (Config.select_iff hw).mpr rfl
  simp only [State.busByte, hsel]

/-- A byte is the same in two states when the register there, if there is one, is. -/
theorem State.busByte_congr {s t : State} {a : Nat} (hcfg : t.cfg = s.cfg) (hw : s.cfg.wf = true)
    (h : ∀ u sl, a = s.cfg.addrOf u sl → (t.usart u).slot sl = (s.usart u).slot sl) : t.busByte a = s.busByte a := by
  unfold State.busByte
  rw [hcfg]
  cases hsel : s.cfg.select a with
  | none => rfl
  | some p => exact h p.1 p.2 ((Config.select_iff hw).mp hsel)

/-! ### Reads -/

@[simp] theorem copyOf_readInstr (u : UsartId) (n : Nat) (sl : Slot) : copyOf (readInstr u n sl) = u := by
  cases sl <;> rfl

theorem performable_readInstr (u : UsartId) (n : Nat) (sl : Slot) (s : State) : Performable (readInstr u n sl) s := by
  cases sl <;> trivial

theorem answerOf_readInstr (u : UsartId) (n : Nat) (sl : Slot) (x : Usart) :
    answerOf (readInstr u n sl) x = some (x.slot sl) := by
  cases sl <;> rfl

/-- The only read with an effect, that of RXBUF, tells the listener and writes no register. -/
theorem slot_copyEffect_readInstr (u : UsartId) (n : Nat) (sl : Slot) (f : Freqs) (ie : Nat) (c : UnitConfig) (x : Usart)
    (sl' : Slot) : (copyEffect (readInstr u n sl) f ie c x).slot sl' = x.slot sl' := by
  cases sl with
  | rxbuf => rw [readInstr, copyEffect, Usart.notify_eq]; rfl
  | _ => rfl

theorem busByte_effect_readInstr {s : State} (hw : s.cfg.wf = true) (u : UsartId) (n : Nat) (sl : Slot) (a : Nat) :
    (effect (readInstr u n sl) s).busByte a = s.busByte a := by
  refine State.busByte_congr (cfg_effect _ _) hw fun v sl' _ => ?_
  rw [usart_effect]
  split
  · exact slot_copyEffect_readInstr ..
  · rfl

/-! ### Writes -/

@[simp] theorem copyOf_writeInstr (u : UsartId) (w : Byte) (n : Nat) (sl : Slot) : copyOf (writeInstr u w n sl) = u := by
  cases sl <;> rfl

theorem performable_writeInstr (u : UsartId) (w : Byte) (n : Nat) (sl : Slot) (s : State) :
    Performable (writeInstr u w n sl) s := by
  cases sl <;> trivial

/-- The byte a write leaves in the slot it addresses: TCTL keeps TXEPT (the spec's decision D4), RXBUF its byte (D5), and
TXBUF its byte when the gate is false (D7). -/
def writtenByte (c : UnitConfig) (x : Usart) (w : Byte) : Slot → Byte
  | .tctl => storedTctl c x.tctl w
  | .rxbuf => x.rxbuf
  | .txbuf => if x.txGate then w else x.txbuf
  | _ => w

theorem slot_copyEffect_writeInstr_same (u : UsartId) (w : Byte) (n : Nat) (sl : Slot) (f : Freqs) (ie : Nat)
    (c : UnitConfig) (x : Usart) : (copyEffect (writeInstr u w n sl) f ie c x).slot sl = writtenByte c x w sl := by
  cases sl with
  | txbuf =>
    simp only [writeInstr, copyEffect, writtenByte]
    split
    · exact Usart.txbuf_submit ..
    · rfl
  | _ => rfl

/-- An accepted byte reaches, TXBUF apart, only TCTL (42_transmit_engine.md R175). -/
theorem Usart.slot_submit_ne (x : Usart) (c : UnitConfig) (b : Byte) (n : Nat) {sl : Slot} (htx : sl ≠ .txbuf)
    (htctl : sl ≠ .tctl) : (x.submit c b n).slot sl = x.slot sl := by
  rw [Usart.submit_eq]
  cases sl with
  | tctl => exact absurd rfl htctl
  | txbuf => exact absurd rfl htx
  | _ => rfl

theorem slot_copyEffect_writeInstr_ne {sl sl' : Slot} {x : Usart} (hne : sl' ≠ sl)
    (htctl : sl = .txbuf → x.txGate = true → sl' ≠ .tctl) (u : UsartId) (w : Byte) (n : Nat) (f : Freqs) (ie : Nat)
    (c : UnitConfig) : (copyEffect (writeInstr u w n sl) f ie c x).slot sl' = x.slot sl' := by
  cases sl with
  | txbuf =>
    simp only [writeInstr, copyEffect]
    split
    · next hgate => exact x.slot_submit_ne c w n hne (htctl rfl hgate)
    · cases sl' <;> rfl
  | rxbuf => rfl
  | _ =>
    cases sl' <;> try rfl
    exact absurd rfl hne

theorem tctl_copyEffect_wrTxbuf {x : Usart} (hgate : x.txGate = true) (u : UsartId) (w : Byte) (n : Nat) (f : Freqs)
    (ie : Nat) (c : UnitConfig) : (copyEffect (.wrTxbuf u w n) f ie c x).tctl = x.tctl &&& ~~~c.txeptMask := by
  rw [copyEffect, if_pos hgate, Usart.tctl_submit]

section
variable {s : State} (hw : s.cfg.wf = true) (u : UsartId) (w : Byte) (n : Nat) (sl : Slot)
include hw

/-- A byte of the copy a bus write addresses is read from the write's effect on that copy. -/
theorem busByte_effect_writeInstr (sl' : Slot) :
    (effect (writeInstr u w n sl) s).busByte (s.cfg.addrOf u sl') =
      (copyEffect (writeInstr u w n sl) s.freqs s.ie (s.cfg.unit u) (s.usart u)).slot sl' := by
  have hcfg : (effect (writeInstr u w n sl) s).cfg = s.cfg := cfg_effect ..
  have hbyte := State.busByte_addrOf (hcfg ▸ hw) u sl'
  rwa [hcfg, usart_effect, copyOf_writeInstr, if_pos rfl] at hbyte

theorem busByte_effect_writeInstr_same :
    (effect (writeInstr u w n sl) s).busByte (s.cfg.addrOf u sl) = writtenByte (s.cfg.unit u) (s.usart u) w sl := by
  rw [busByte_effect_writeInstr hw, slot_copyEffect_writeInstr_same]

/-- The frame of a bus write over every bus address. -/
theorem busByte_effect_writeInstr_ne {a : Nat} (hne : a ≠ s.cfg.addrOf u sl)
    (htctl : sl = .txbuf → (s.usart u).txGate = true → a ≠ s.cfg.addrOf u .tctl) :
    (effect (writeInstr u w n sl) s).busByte a = s.busByte a := by
  refine State.busByte_congr (cfg_effect _ _) hw fun v sl' ha => ?_
  subst ha
  rw [usart_effect, copyOf_writeInstr]
  split
  · next hv =>
    subst hv
    exact slot_copyEffect_writeInstr_ne (fun h => hne (by rw [h])) (fun hsl hgate h => htctl hsl hgate (by rw [h])) ..
  · rfl

end

/-- Settles O52: the byte written by its slot, the other bytes by the frame of the write, and a read by having no effect on
a register. -/
theorem busWriteTouchesItsByte : Obligations.BusWriteTouchesItsByte := by
  intro u sl wdata cycle s hw
  have hold : ∀ sl', s.busByte (s.cfg.addrOf u sl') = (s.usart u).slot sl' := State.busByte_addrOf hw u
  refine ⟨⟨_, exec_eq_effect (performable_writeInstr ..), fun a => busByte_effect_writeInstr_ne hw u wdata cycle sl,
    ?plain, ?tctl, ?rxbuf, ?txbuf, ?txept⟩, ⟨_, exec_eq_effect (performable_readInstr ..), ?answer,
    busByte_effect_readInstr hw u cycle sl⟩⟩
  case plain =>
    intro htctl hrxbuf htxbuf
    rw [busByte_effect_writeInstr_same hw]
    cases sl with
    | tctl => exact absurd rfl htctl
    | rxbuf => exact absurd rfl hrxbuf
    | txbuf => exact absurd rfl htxbuf
    | _ => rfl
  case tctl =>
    rintro rfl
    rw [busByte_effect_writeInstr_same hw, hold]
    rfl
  case rxbuf =>
    rintro rfl
    rw [busByte_effect_writeInstr_same hw, hold]
    rfl
  case txbuf =>
    rintro rfl
    rw [busByte_effect_writeInstr_same hw, hold]
    rfl
  case txept =>
    rintro rfl hgate
    rw [busByte_effect_writeInstr hw, hold]
    exact tctl_copyEffect_wrTxbuf hgate ..
  case answer =>
    rw [rdata_effect, answerOf_readInstr, copyOf_readInstr, hold]

/-! ## The divisor by halves (R64, R65) -/

theorem divisor_eq_max (br0 br1 : Byte) : divisor br0 br1 = max 1 (br0.toNat + 256 * br1.toNat) := by
  by_cases h : br0.toNat + 256 * br1.toNat = 0
  · simp [divisor, highWeight, h]
  · rw [max_eq_right (Nat.one_le_iff_ne_zero.mpr h)]
    exact if_neg h

theorem usart_effect_wrBr0 (u : UsartId) (w : Byte) (n : Nat) (s : State) :
    (effect (.wrBr0 u w n) s).usart u = { s.usart u with br0 := w }.recompute s.freqs := usart_effect_same (.wrBr0 u w n) s

theorem usart_effect_wrBr1 (u : UsartId) (w : Byte) (n : Nat) (s : State) :
    (effect (.wrBr1 u w n) s).usart u = { s.usart u with br1 := w }.recompute s.freqs := usart_effect_same (.wrBr1 u w n) s

theorem expand_setDiv (c : Config) (u : UsartId) (d : BitVec 16) (cycle : Nat) :
    Pseudo.expand c u (.setDiv d cycle) =
      [.wrBr0 u (BitVec.ofNat 8 (d.toNat % 256)) cycle, .wrBr1 u (BitVec.ofNat 8 (d.toNat / 256)) cycle] := by
  have hlo : d.extractLsb' 0 8 = BitVec.ofNat 8 (d.toNat % 256) := BitVec.eq_of_toNat_eq (by simp)
  have hhi : d.extractLsb' 8 8 = BitVec.ofNat 8 (d.toNat / 256) :=
    BitVec.eq_of_toNat_eq (by simp [Nat.shiftRight_eq_div_pow])
  rw [Pseudo.expand, hlo, hhi]

/-- Settles O26: each write stores its half of the divisor and recomputes the rate from the half it finds. -/
theorem halfUpdatedDivisor : Obligations.HalfUpdatedDivisor := by
  intro u d cycle s
  have hlo : (BitVec.ofNat 8 (d.toNat % 256)).toNat = d.toNat % 256 := by simp
  have hhi : (BitVec.ofNat 8 (d.toNat / 256)).toNat = d.toNat / 256 := Nat.mod_eq_of_lt (by have := d.isLt; omega)
  have hd : d.toNat % 256 + 256 * (d.toNat / 256) = d.toNat := Nat.mod_add_div ..
  refine ⟨_, _, expand_setDiv .., exec_eq_effect trivial, exec_eq_effect trivial, ?_⟩
  rw [usart_effect_wrBr1, usart_effect_wrBr0]
  simp [divisor_eq_max, hlo, hhi, hd]

end Sys2Proof.Machine
end

section
/-! SUPPORT. The encoding (30_encoding.md): what the decoder reads from a register's address, from an address outside both
windows, from a port number and from a table word, and the round trips between operations and requests. -/

namespace Sys2Proof

/-! ## Bus transactions (R61, R91, R99) -/

/-- The operation of a bus transaction at a register. -/
def registerInstr (u : UsartId) (sl : Slot) (we : Bool) (wdata : Byte) (cycle : Nat) : Instr :=
  if we then writeInstr u wdata cycle sl else readInstr u cycle sl

/-- The operation of a bus transaction outside both windows. -/
def unselectedInstr (we : Bool) (addr : Nat) (wdata : Byte) (cycle : Nat) : Instr :=
  if we then .wrNone addr wdata cycle else .rdNone addr cycle

theorem decode_bus_of_onBus {c : Config} {addr : Nat} (h : c.onBus addr = true) (we : Bool) (wdata : Byte) (cycle : Nat) :
    decode c (.bus we addr wdata cycle) = .ok (decodeBus c we addr wdata cycle) := if_pos h

theorem decode_bus_of_not_onBus {c : Config} {addr : Nat} (h : ¬ c.onBus addr = true) (we : Bool) (wdata : Byte) (cycle : Nat) :
    decode c (.bus we addr wdata cycle) = .error .addressTooWide := if_neg h

theorem decodeBus_of_select {c : Config} {addr : Nat} {u : UsartId} {sl : Slot} (h : c.select addr = some (u, sl)) (we : Bool)
    (wdata : Byte) (cycle : Nat) : decodeBus c we addr wdata cycle = registerInstr u sl we wdata cycle := by
  simp only [decodeBus, h, registerInstr]

theorem decodeBus_of_unselected {c : Config} {addr : Nat} (h : c.unselected addr = true) (we : Bool) (wdata : Byte) (cycle : Nat) :
    decodeBus c we addr wdata cycle = unselectedInstr we addr wdata cycle := by
  simp only [decodeBus, Config.select_eq_none.mpr h, unselectedInstr]

theorem decode_bus_addrOf {c : Config} (hw : c.wf = true) (u : UsartId) (sl : Slot) (we : Bool) (wdata : Byte) (cycle : Nat) :
    decode c (.bus we (c.addrOf u sl) wdata cycle) = .ok (registerInstr u sl we wdata cycle) := by
  rw [decode_bus_of_onBus (Config.onBus_addrOf hw u sl), decodeBus_of_select ((Config.select_iff hw).mpr rfl)]

theorem decode_bus_unselected {c : Config} {addr : Nat} (h : (c.onBus addr && c.unselected addr) = true) (we : Bool)
    (wdata : Byte) (cycle : Nat) :
    decode c (.bus we addr wdata cycle) = .ok (unselectedInstr we addr wdata cycle) := by
  obtain ⟨hbus, hout⟩ := Bool.and_eq_true_iff.mp h
  rw [decode_bus_of_onBus hbus, decodeBus_of_unselected hout]

/-- What a bus transaction can decode to: the access of the register at its address, or an unselected access. -/
theorem decode_bus_eq_ok {c : Config} {we : Bool} {addr : Nat} {wdata : Byte} {cycle : Nat} {i : Instr} (hw : c.wf = true)
    (h : decode c (.bus we addr wdata cycle) = .ok i) :
    (∃ u sl, addr = c.addrOf u sl ∧ i = registerInstr u sl we wdata cycle) ∨
    ((c.onBus addr && c.unselected addr) = true ∧ i = unselectedInstr we addr wdata cycle) := by
  by_cases hbus : c.onBus addr = true
  · rw [decode_bus_of_onBus hbus, Except.ok.injEq] at h
    subst h
    cases hsel : c.select addr with
    | some p => exact .inl ⟨p.1, p.2, (Config.select_iff hw).mp hsel, decodeBus_of_select hsel ..⟩
    | none =>
      have hout := Config.select_eq_none.mp hsel
      exact .inr ⟨Bool.and_eq_true_iff.mpr ⟨hbus, hout⟩, decodeBus_of_unselected hout ..⟩
  · rw [decode_bus_of_not_onBus hbus] at h
    cases h

theorem wf_registerInstr (c : Config) (u : UsartId) (sl : Slot) (we : Bool) (wdata : Byte) (cycle : Nat) :
    (registerInstr u sl we wdata cycle).wf c = true := by
  cases we <;> cases sl <;> rfl

theorem wf_unselectedInstr (c : Config) (we : Bool) (addr : Nat) (wdata : Byte) (cycle : Nat) :
    (unselectedInstr we addr wdata cycle).wf c = (c.onBus addr && c.unselected addr) := by
  cases we <;> rfl

/-- A read drives 0 for its `wdata`, which is not meaningful (R91). -/
theorem encode_registerInstr (c : Config) (u : UsartId) (sl : Slot) (we : Bool) (wdata : Byte) (cycle : Nat) :
    encode c (registerInstr u sl we wdata cycle) = .bus we (c.addrOf u sl) (if we then wdata else 0) cycle := by
  cases we <;> cases sl <;> rfl

theorem encode_unselectedInstr (c : Config) (we : Bool) (addr : Nat) (wdata : Byte) (cycle : Nat) :
    encode c (unselectedInstr we addr wdata cycle) = .bus we addr (if we then wdata else 0) cycle := by
  cases we <;> rfl

/-! ## The round trips (R90 to R92, R99) -/

theorem decode_readRequest {c : Config} (hw : c.wf = true) (u : UsartId) (sl : Slot) (cycle : Nat) :
    decode c (readRequest c u sl cycle) = .ok (readInstr u cycle sl) := decode_bus_addrOf hw u sl false 0 cycle

theorem decode_writeRequest {c : Config} (hw : c.wf = true) (u : UsartId) (sl : Slot) (wdata : Byte) (cycle : Nat) :
    decode c (writeRequest c u sl wdata cycle) = .ok (writeInstr u wdata cycle sl) := decode_bus_addrOf hw u sl true wdata cycle

/-- Settles O3: a register's address selects that register, an unselected operation is well formed only outside both windows,
and a port number selects its event. -/
theorem decodeOfEncode : Obligations.DecodeOfEncode := by
  intro c i hw hi
  cases i with
  | rdCtl u n | rdTctl u n | rdRctl u n | rdMctl u n | rdBr0 u n | rdBr1 u n | rdRxbuf u n | rdTxbuf u n =>
    exact decode_readRequest hw ..
  | wrCtl u w n | wrTctl u w n | wrRctl u w n | wrMctl u w n | wrBr0 u w n | wrBr1 u w n | wrRxbuf u w n | wrTxbuf u w n =>
    exact decode_writeRequest hw ..
  | rdNone addr n => exact decode_bus_unselected hi ..
  | wrNone addr w n => exact decode_bus_unselected hi ..
  | reset u n | tick u n | deliver u b n | enchg u bit on => rfl

/-- Settles O4: at a register and outside both windows the encoder gives the transaction back. -/
theorem encodeOfDecodedBus : Obligations.EncodeOfDecodedBus := by
  intro c we addr wdata cycle i hw hdec
  obtain ⟨u, sl, rfl, rfl⟩ | ⟨hout, rfl⟩ := decode_bus_eq_ok hw hdec
  · exact ⟨wf_registerInstr .., encode_registerInstr ..⟩
  · exact ⟨(wf_unselectedInstr ..).trans hout, encode_unselectedInstr ..⟩

/-! ## Table words (R98, R101; log 9) -/

theorem decode_port_reserved (c : Config) (u : UsartId) {num : Nat} (cycle arg : Nat) (on : Bool) (h : 4 ≤ num) :
    decode c (.port u num cycle arg on) = .error (.reservedPort num) := by
  obtain ⟨k, rfl⟩ := Nat.exists_eq_add_of_le' h
  rfl

theorem decodeTableWord_of_ok {w : Nat} {i : Instr} (h : decode Config.ex (.ofTableWord Config.ex 0 w) = .ok i) (nbits : Nat) :
    decodeTableWord nbits w = some i := by
  simp only [decodeTableWord, h]

theorem decodeTableWord_of_error {w : Nat} {e : Reject} (h : decode Config.ex (.ofTableWord Config.ex 0 w) = .error e)
    (nbits : Nat) : decodeTableWord nbits w = none := by
  simp only [decodeTableWord, h]

theorem ofTableWord_port (c : Config) (stamp num : Nat) :
    Request.ofTableWord c stamp (32 + num) = .port .usart0 num stamp 0 false := by
  rw [Request.ofTableWord, if_neg (by omega), Nat.add_sub_cancel_left]

/-- The words from 0 read, and those from 8 write, the registers of copy 0. -/
theorem ofTableWord_register (c : Config) (stamp : Nat) (we : Bool) (sl : Slot) :
    Request.ofTableWord c stamp ((if we then 8 else 0) + sl.offset) = .bus we (c.addrOf .usart0 sl) 0 stamp := by
  cases we <;> cases sl <;> rfl

/-- The words from 16 read, and those from 24 write, an address outside both windows, whatever `sel[2:0]` is. -/
theorem ofTableWord_unselected (c : Config) (stamp : Nat) (we : Bool) {k : Nat} (h : k < 8) :
    Request.ofTableWord c stamp ((if we then 24 else 16) + k) = .bus we c.outsideAddr 0 stamp := by
  cases we <;> interval_cases k <;> rfl

theorem decodeTableWord_register (nbits : Nat) (we : Bool) (sl : Slot) :
    decodeTableWord nbits ((if we then 8 else 0) + sl.offset) = some (registerInstr .usart0 sl we 0 0) := by
  refine decodeTableWord_of_ok ?_ nbits
  rw [ofTableWord_register, decode_bus_addrOf (by decide)]

theorem decodeTableWord_unselected (nbits : Nat) (we : Bool) {k : Nat} (h : k < 8) :
    decodeTableWord nbits ((if we then 24 else 16) + k) = some (unselectedInstr we 0 0 0) := by
  refine decodeTableWord_of_ok ?_ nbits
  rw [ofTableWord_unselected _ _ _ h, decode_bus_unselected (by decide)]
  rfl

/-- Settles O1: the words of the registers' reads and writes, of the unselected accesses and of the four ports. -/
theorem operationMapWordsDecode : Obligations.OperationMapWordsDecode := by
  have hread := decodeTableWord_register 8 false
  have hwrite := decodeTableWord_register 8 true
  exact ⟨hread .ctl, hread .tctl, hread .rctl, hread .mctl, hread .br0, hread .br1, hread .rxbuf, hread .txbuf,
    hwrite .ctl, hwrite .tctl, hwrite .rctl, hwrite .mctl, hwrite .br0, hwrite .br1, hwrite .rxbuf, hwrite .txbuf,
    fun _ => decodeTableWord_unselected 8 false, fun _ => decodeTableWord_unselected 8 true, rfl, rfl, rfl, rfl⟩

/-- Settles O2: a word from 36 on is a port event whose number is 4 or more, and such a number is reserved. -/
theorem unnamedSelectorsRefused : Obligations.UnnamedSelectorsRefused := by
  refine ⟨fun nbits w hw => ?word, fun c u _ cycle arg on => decode_port_reserved c u cycle arg on⟩
  case word =>
    obtain ⟨num, rfl⟩ := Nat.exists_eq_add_of_le (show 32 ≤ w by omega)
    have hnum : decode Config.ex (.port .usart0 num 0 0 false) = .error (.reservedPort num) :=
      decode_port_reserved _ _ _ _ _ (by omega)
    exact decodeTableWord_of_error (ofTableWord_port Config.ex 0 num ▸ hnum) nbits

end Sys2Proof
end

section
/-! SUPPORT. The register file (40_register_file.md): what each access leaves, from the one effect of the operation and its frame. -/

namespace Sys2Proof.Machine

/-! ## The frame of an operation -/

theorem sameElsewhere_effect (i : Instr) (s : State) : SameElsewhere (copyOf i) s (effect i s) :=
  ⟨fun _ h => usart_effect_ne i s h, cfg_effect i s, ie_effect i s, freqs_effect i s, cycle_effect i s, inputs_effect i s⟩

/-- Outside the addressed copy a write changes nothing and returns nothing; a write of TXBUF only when the gate drops it. -/
theorem frame_effect_writeInstr {u : UsartId} {sl : Slot} {s : State} (h : sl = .txbuf → (s.usart u).txGate = false)
    (w : Byte) (n : Nat) :
    (effect (writeInstr u w n sl) s).ifg = s.ifg ∧ (effect (writeInstr u w n sl) s).rdata = none ∧
      SameElsewhere u s (effect (writeInstr u w n sl) s) := by
  have helse := sameElsewhere_effect (writeInstr u w n sl) s
  rw [copyOf_writeInstr] at helse
  refine ⟨?_, ?_, helse⟩
  · rw [ifg_effect, copyOf_writeInstr]
    cases sl with
    | txbuf => simp [writeInstr, flagEffect, h]
    | _ => rfl
  · rw [rdata_effect]
    cases sl <;> rfl

/-! ## Reads (R128 to R135) -/

/-- Every read but RXBUF's is a plain echo (R128). -/
theorem exec_readInstr_of_ne_rxbuf {sl : Slot} (h : sl ≠ .rxbuf) (u : UsartId) (cycle : Nat) (s : State) :
    exec (readInstr u cycle sl) s = .next { s with rdata := some ((s.usart u).slot sl) } := by
  cases sl with
  | rxbuf => exact absurd rfl h
  | _ => rfl

/-- Settles O13: six of the plain echoes. -/
theorem plainReadsEcho : Obligations.PlainReadsEcho := by
  intro u cycle s
  have hecho : ∀ sl, sl ≠ .rxbuf →
      exec (readInstr u cycle sl) s = .next { s with rdata := some ((s.usart u).slot sl) } :=
    fun _ h => exec_readInstr_of_ne_rxbuf h u cycle s
  exact ⟨hecho .ctl (by decide), hecho .tctl (by decide), hecho .rctl (by decide), hecho .mctl (by decide),
    hecho .br0 (by decide), hecho .br1 (by decide)⟩

/-- Settles O14: the seventh plain echo, in which the valid bit of the queue has no part. -/
theorem readTxbufEchoes : Obligations.ReadTxbufEchoes :=
  exec_readInstr_of_ne_rxbuf (sl := .txbuf) (by decide)

theorem usart_effect_rdRxbuf (u : UsartId) (n : Nat) (s : State) :
    (effect (.rdRxbuf u n) s).usart u = { s.usart u with
      notes := (s.usart u).notes ++ (if (s.cfg.unit u).listener then [.receiveFlagCleared] else []) } :=
  (usart_effect_same (.rdRxbuf u n) s).trans (Usart.notify_eq ..)

theorem ifg_effect_rdRxbuf (u : UsartId) (n : Nat) (s : State) :
    (effect (.rdRxbuf u n) s).ifg = clearBits s.ifg (s.cfg.unit u).rxifgMask := ifg_effect (.rdRxbuf u n) s

theorem rdata_effect_rdRxbuf (u : UsartId) (n : Nat) (s : State) :
    (effect (.rdRxbuf u n) s).rdata = some (s.usart u).rxbuf := rdata_effect (.rdRxbuf u n) s

/-- Settles O15: the read leaves the byte and the configuration, so a second one has the same effect; clearing a clear flag
is the identity. -/
theorem readRxbufClearsFlag : Obligations.ReadRxbufClearsFlag := by
  intro u cycle cycle' s
  refine ⟨_, _, exec_eq_effect trivial, rdata_effect_rdRxbuf .., ?cleared, usart_effect_rdRxbuf ..,
    sameElsewhere_effect (.rdRxbuf u cycle) s, exec_eq_effect trivial, ?again, ?clear, ?told,
    sameElsewhere_effect (.rdRxbuf u cycle') _⟩
  case cleared =>
    intro b
    rw [ifg_effect_rdRxbuf, clearBits_testBit]
  case again => rw [rdata_effect_rdRxbuf, usart_effect_rdRxbuf]
  case clear => rw [ifg_effect_rdRxbuf, ifg_effect_rdRxbuf, cfg_effect, clearBits_clearBits_same]
  case told => rw [usart_effect_rdRxbuf u cycle', cfg_effect]

/-! ## Accesses outside both windows (R136, R137) -/

section
variable {c : Config} {addr : Nat}
  (h : ∀ u, ¬(0 ≤ (addr : Int) - ((c.unit u).base : Int) ∧ (addr : Int) - ((c.unit u).base : Int) ≤ 7))
include h

theorem unselected_of_offsets : c.unselected addr = true := by
  have h0 : slotAt (c.unit0.offsetOf addr) = none := slotAt_eq_none.mpr (h .usart0)
  have h1 : slotAt (c.unit1.offsetOf addr) = none := slotAt_eq_none.mpr (h .usart1)
  rw [← Config.select_eq_none]
  simp only [Config.select, h0, h1]

theorem decode_bus_of_offsets (hbus : addr < 2 ^ c.addrW) (we : Bool) (wdata : Byte) (cycle : Nat) :
    decode c (.bus we addr wdata cycle) = .ok (unselectedInstr we addr wdata cycle) :=
  decode_bus_unselected (Bool.and_eq_true_iff.mpr ⟨decide_eq_true hbus, unselected_of_offsets h⟩) we wdata cycle

end

/-- Settles O16: no copy is selected, and the operation answers the constant 0. -/
theorem unselectedReadReturnsZero : Obligations.UnselectedReadReturnsZero :=
  ⟨fun _ _ wdata cycle _ hbus h => decode_bus_of_offsets h hbus false wdata cycle, fun _ _ _ => rfl⟩

/-- Settles O17: no copy is selected, and the operation completes at once. -/
theorem unselectedWriteIgnored : Obligations.UnselectedWriteIgnored :=
  ⟨fun _ _ wdata cycle _ hbus h => decode_bus_of_offsets h hbus true wdata cycle, fun _ _ _ _ => rfl⟩

/-! ## Writes (R120 to R127) -/

theorem spiBit_eq_decide (c : UnitConfig) (w : Byte) : spiBit c w = decide (w &&& c.spiModeMask ≠ 0) := by
  simp [spiBit, anySet, bne, beq_eq_decide]

/-- Settles O18: the effect of WR.CTL on its copy, and the frame of a write. -/
theorem writeCtlSetsSpiMode : Obligations.WriteCtlSetsSpiMode := by
  intro u wdata cycle s
  refine ⟨_, exec_eq_effect trivial, ?_, frame_effect_writeInstr (sl := .ctl) (by simp) wdata cycle⟩
  rw [← spiBit_eq_decide]
  exact usart_effect_same (.wrCtl u wdata cycle) s

/-- Bit by bit, the byte a write of TCTL stores is the written one outside TXEPT and the old one in it (R94). -/
theorem getLsbD_storedTctl (c : UnitConfig) (old w : Byte) {b : Nat} (hb : b < 8) :
    (storedTctl c old w).getLsbD b = if c.txeptMask.getLsbD b then old.getLsbD b else w.getLsbD b := by
  simp only [storedTctl, BitVec.getLsbD_or, BitVec.getLsbD_and, BitVec.getLsbD_not]
  cases c.txeptMask.getLsbD b <;> simp [hb]

/-- The clock-select code is the number the two bits of the field spell (R94). -/
theorem toNat_clockCode (c : UnitConfig) (w : Byte) :
    (clockCode c w).toNat = 2 * (w.getLsbD (c.sselLsb + 1)).toNat + (w.getLsbD c.sselLsb).toNat := by
  have hcode : ∀ k : BitVec 2, k.toNat = 2 * (k.getLsbD 1).toNat + (k.getLsbD 0).toNat := by decide
  rw [hcode]
  simp [clockCode]

theorem usart_effect_wrTctl (u : UsartId) (w : Byte) (n : Nat) (s : State) :
    (effect (.wrTctl u w n) s).usart u =
      { s.usart u with
        tctl := storedTctl (s.cfg.unit u) (s.usart u).tctl w
        clkSel := clockOf (s.cfg.unit u).clksel (clockCode (s.cfg.unit u) w) }.recompute s.freqs :=
  usart_effect_same (.wrTctl u w n) s

/-- Settles O19: the stored byte bit by bit, and the clock by the two bits of the field; the recomputation writes neither. -/
theorem writeTctlSelectsClock : Obligations.WriteTctlSelectsClock := by
  intro u wdata cycle s
  refine ⟨_, exec_eq_effect trivial, fun b hb => ?stored, ?clock, ?rate,
    frame_effect_writeInstr (sl := .tctl) (by simp) wdata cycle⟩
  case stored =>
    rw [usart_effect_wrTctl, Usart.tctl_recompute]
    exact getLsbD_storedTctl _ _ _ hb
  case clock =>
    rw [usart_effect_wrTctl, Usart.clkSel_recompute]
    simp only [clockOf, toNat_clockCode]
    cases wdata.getLsbD ((s.cfg.unit u).sselLsb + 1) <;> cases wdata.getLsbD (s.cfg.unit u).sselLsb <;> rfl
  case rate =>
    rw [usart_effect_wrTctl, Usart.tctl_recompute, Usart.clkSel_recompute]

/-- Settles O20: the effects on the copy, which write one register, and the frame of a write. -/
theorem writeRctlMctlStoreOnly : Obligations.WriteRctlMctlStoreOnly := by
  intro u wdata cycle s
  exact ⟨⟨_, exec_eq_effect trivial, usart_effect_same (.wrRctl u wdata cycle) s,
      frame_effect_writeInstr (sl := .rctl) (by simp) wdata cycle⟩,
    ⟨_, exec_eq_effect trivial, usart_effect_same (.wrMctl u wdata cycle) s,
      frame_effect_writeInstr (sl := .mctl) (by simp) wdata cycle⟩⟩

/-- Settles O21: a recomputation writes neither divisor byte and not the event. -/
theorem writeDivisorByteRecomputes : Obligations.WriteDivisorByteRecomputes := by
  intro u wdata cycle s
  refine ⟨⟨_, exec_eq_effect trivial, usart_effect_wrBr0 .., ?_, ?_, ?_,
      frame_effect_writeInstr (sl := .br0) (by simp) wdata cycle⟩,
    ⟨_, exec_eq_effect trivial, usart_effect_wrBr1 .., ?_, ?_, ?_,
      frame_effect_writeInstr (sl := .br1) (by simp) wdata cycle⟩⟩
  all_goals simp [usart_effect_wrBr0, usart_effect_wrBr1]

/-- Settles O27: the arm completes at once. -/
theorem writeRxbufIgnored : Obligations.WriteRxbufIgnored := fun _ _ _ _ => rfl

theorem Usart.txGate_eq_false_iff (x : Usart) :
    x.txGate = false ↔ x.txEnabled = false ∧ (x.spiMode = false ∨ x.rxEnabled = false) := by
  cases h : x.spiMode <;> simp [Usart.txGate, h]

/-- Settles O28: with the gate false the effect on the copy is one diagnostic, and the flags stay. -/
theorem gatedOffTxbufWriteDropped : Obligations.GatedOffTxbufWriteDropped := by
  intro u wdata cycle s htx hpath
  have hgate : (s.usart u).txGate = false := (Usart.txGate_eq_false_iff _).mpr ⟨htx, hpath⟩
  have hcopy : (effect (.wrTxbuf u wdata cycle) s).usart u = (s.usart u).diag .txWriteDropped :=
    (usart_effect_same (.wrTxbuf u wdata cycle) s).trans (if_neg (ne_true_of_eq_false hgate))
  exact ⟨_, exec_eq_effect trivial, hcopy, frame_effect_writeInstr (sl := .txbuf) (fun _ => hgate) wdata cycle⟩

end Sys2Proof.Machine
end

section
/-! SUPPORT. The Baud-Rate Clock (41_baud_clock.md): the two clamps as maxima, the bounds they give, and the formula in numbers. -/

namespace Sys2Proof.Machine

/-! ## The divisor, the baud rate and the byte time -/

theorem one_le_divisor (br0 br1 : Byte) : 1 ≤ divisor br0 br1 :=
  divisor_eq_max br0 br1 ▸ le_max_left ..

/-- The greatest divisor is `255 + 256 * 255`. -/
theorem divisor_le (br0 br1 : Byte) : divisor br0 br1 ≤ 65535 := by
  have hlo := br0.isLt
  have hhi := br1.isLt
  rw [divisor_eq_max]
  omega

theorem baudRateOf_eq_max (fSelected div : Nat) : baudRateOf fSelected div = max 1 (fSelected / div) := by
  by_cases h : fSelected / div = 0
  · simp [baudRateOf, h]
  · rw [max_eq_right (Nat.one_le_iff_ne_zero.mpr h)]
    exact if_neg h

theorem one_le_baudRateOf (fSelected div : Nat) : 1 ≤ baudRateOf fSelected div :=
  baudRateOf_eq_max fSelected div ▸ le_max_left ..

/-- A division does not raise the frequency, so only the clamp of R162 can exceed it. -/
theorem baudRateOf_le (fSelected div : Nat) : baudRateOf fSelected div ≤ max 1 fSelected :=
  baudRateOf_eq_max fSelected div ▸ max_le_max_left 1 (Nat.div_le_self ..)

theorem baudRateOf_of_lt {fSelected div : Nat} (h : fSelected < div) : baudRateOf fSelected div = 1 :=
  if_pos (Nat.div_eq_of_lt h)

@[simp] theorem ticksPerByteOf_one (fSec : Nat) : ticksPerByteOf fSec 1 = 8 * fSec := Nat.div_one _

theorem ticksPerByteOf_eq_zero_iff {baud : Nat} (hbaud : 1 ≤ baud) (fSec : Nat) :
    ticksPerByteOf fSec baud = 0 ↔ 8 * fSec < baud :=
  Nat.div_eq_zero_iff_lt hbaud

theorem Freqs.selected_eq_ite (f : Freqs) (k : Clock) : f.selected k = if k = .A then f.fA else f.fB := by
  cases k <;> rfl

/-! ## The recomputation (R160 to R165) -/

/-- Settles O25: the bounds of the divisor, of the clamped quotient and of the byte time at a positive rate. -/
theorem recomputeBounds : Obligations.RecomputeBounds := fun _ f =>
  ⟨one_le_divisor .., divisor_le .., one_le_baudRateOf .., baudRateOf_le ..,
    ticksPerByteOf_eq_zero_iff (one_le_baudRateOf ..) f.fSec⟩

/-- Settles O22: the divisor, the selected frequency and the rate are the three numbers of the formula. -/
theorem recomputeFormula : Obligations.RecomputeFormula := by
  intro x f div fSel baud hdiv hfSel hbaud
  have hd : divisor x.br0 x.br1 = div := hdiv.symm
  have hf : f.selected x.clkSel = fSel := (Freqs.selected_eq_ite ..).trans hfSel.symm
  have hb : baudRateOf fSel div = baud := hbaud.symm
  rw [Usart.recompute, hd, hf, hb]
  rfl

/-- Settles O23: the bytes 0, 0 and the bytes 1, 0 give one divisor, and a recomputation writes neither byte. -/
theorem zeroDivisorActsAsOne : Obligations.ZeroDivisorActsAsOne := by
  intro x f h0 h1
  have hd : divisor x.br0 x.br1 = divisor 1 x.br1 := by rw [h0, h1]; decide
  refine ⟨?_, ?_, h0, h1⟩
  · rw [Usart.baudRate_recompute, hd, Usart.baudRate_recompute]
  · rw [Usart.ticksPerByte_recompute, hd, Usart.ticksPerByte_recompute]

/-- Settles O24: the divisor is positive, so the quotient is 0 exactly below it, and there the clamp answers. -/
theorem zeroBaudRateClampsToOne : Obligations.ZeroBaudRateClampsToOne := by
  intro x f
  refine ⟨Nat.div_eq_zero_iff_lt (one_le_divisor ..), fun hlt => ?_⟩
  have hbaud : baudRateOf (f.selected x.clkSel) (divisor x.br0 x.br1) = 1 := baudRateOf_of_lt hlt
  rw [Usart.ticksPerByte_recompute, Usart.baudRate_recompute, hbaud]
  exact ⟨rfl, ticksPerByteOf_one _⟩

end Sys2Proof.Machine
end

section
/-! SUPPORT. The Transmit Engine (42_transmit_engine.md): what an accepted byte and a TICK leave, the life of one byte, and
who moves the engine and who tells the listener. -/

namespace Sys2Proof.Machine

/-! ## An accepted write of TXBUF (R175, R177) -/

theorem Usart.txGate_eq_true_iff (x : Usart) :
    x.txGate = true ↔ x.txEnabled = true ∨ (x.spiMode = true ∧ x.rxEnabled = true) := by
  simp [Usart.txGate]

theorem Usart.txState_submit_of_ne_shifting {x : Usart} (h : x.txState = .idle ∨ x.txState = .loaded) (c : UnitConfig)
    (b : Byte) (n : Nat) : (x.submit c b n).txState = .loaded := by
  have hsr : x.txsr = none := by
    rw [Usart.txState_idle_iff, Usart.txState_loaded_iff] at h
    exact h.elim And.left And.left
  simp [Usart.txState_loaded_iff, hsr]

theorem Usart.txState_submit_of_shifting {x : Usart} (h : x.txState = .shifting) (c : UnitConfig) (b : Byte) (n : Nat) :
    (x.submit c b n).txState = .shifting := by
  rw [Usart.txState_shifting_iff] at h ⊢
  simpa using h

theorem Usart.txState_submit_ne_idle (x : Usart) (c : UnitConfig) (b : Byte) (n : Nat) :
    (x.submit c b n).txState ≠ .idle := by
  simp [Usart.txState_idle_iff]

/-- A second byte replaces the first one in the queue; the first already left idle, so only its cycle schedules (R177). -/
theorem Usart.submit_submit (x : Usart) (c : UnitConfig) (b₁ b₂ : Byte) (n₁ n₂ : Nat) :
    (x.submit c b₁ n₁).submit c b₂ n₂ = x.submit c b₂ n₁ := by
  rw [Usart.submit_eq (x.submit c b₁ n₁), if_neg (x.txState_submit_ne_idle c b₁ n₁)]
  simp only [Usart.submit_eq, and_not_and_not_same]

theorem Usart.txept_submit (x : Usart) (c : UnitConfig) (b : Byte) (n : Nat) : (x.submit c b n).txept c = false := by
  simpa [Usart.txept] using x.txept_clearTxept c

section
variable {s : State} {u : UsartId} (hgate : (s.usart u).txGate = true)
include hgate

theorem usart_effect_wrTxbuf (w : Byte) (n : Nat) :
    (effect (.wrTxbuf u w n) s).usart u = (s.usart u).submit (s.cfg.unit u) w n :=
  (usart_effect_same (.wrTxbuf u w n) s).trans (if_pos hgate)

theorem ifg_effect_wrTxbuf (w : Byte) (n : Nat) :
    (effect (.wrTxbuf u w n) s).ifg = clearBits s.ifg (s.cfg.unit u).txifgMask :=
  (ifg_effect (.wrTxbuf u w n) s).trans (if_pos hgate)

theorem transmitReady_effect_wrTxbuf (w : Byte) (n : Nat) : (effect (.wrTxbuf u w n) s).transmitReady u = false := by
  simp only [State.transmitReady, State.getFlags, ifg_effect_wrTxbuf hgate, cfg_effect, clearBits_and_self,
    bne_self_eq_false]

/-- What an accepted byte leaves of the copy and of its transmit-ready flag. -/
theorem exists_exec_wrTxbuf (w : Byte) (n : Nat) :
    ∃ t, exec (.wrTxbuf u w n) s = .next t ∧ t.cfg = s.cfg ∧
      t.usart u = (s.usart u).submit (s.cfg.unit u) w n ∧ t.transmitReady u = false :=
  ⟨_, exec_eq_effect trivial, cfg_effect .., usart_effect_wrTxbuf hgate w n, transmitReady_effect_wrTxbuf hgate w n⟩

theorem effect_wrTxbuf_wrTxbuf (b₁ b₂ : Byte) (n₁ n₂ : Nat) :
    effect (.wrTxbuf u b₂ n₂) (effect (.wrTxbuf u b₁ n₁) s) = effect (.wrTxbuf u b₂ n₁) s := by
  have hgate' : ((effect (.wrTxbuf u b₁ n₁) s).usart u).txGate = true := by
    simpa [usart_effect_wrTxbuf hgate, Usart.txGate] using hgate
  refine State.ext_usart ?_ (fun v => ?copy) ?flags ?_ ?_ ?_ ?_ ?_
  case copy =>
    by_cases hv : v = u
    · subst hv
      rw [usart_effect_wrTxbuf hgate', usart_effect_wrTxbuf hgate, usart_effect_wrTxbuf hgate, cfg_effect,
        Usart.submit_submit]
    · rw [usart_effect_ne _ _ hv, usart_effect_ne _ _ hv, usart_effect_ne _ _ hv]
  case flags =>
    rw [ifg_effect_wrTxbuf hgate', ifg_effect_wrTxbuf hgate, ifg_effect_wrTxbuf hgate, cfg_effect,
      clearBits_clearBits_same]
  all_goals simp [answerOf]

end

/-- Settles O30: on the copy `submit` after `submit` is one `submit`, and clearing a clear flag is the identity. -/
theorem lastTxbufWriteWins : Obligations.LastTxbufWriteWins := by
  intro u b₁ b₂ c₁ c₂ s hpath
  have hgate : (s.usart u).txGate = true := (Usart.txGate_eq_true_iff _).mpr hpath
  refine ⟨_, exec_eq_effect trivial, ?_⟩
  rw [exec_eq_effect trivial, exec_eq_effect trivial, effect_wrTxbuf_wrTxbuf hgate]

/-- Settles O29: with the gate true the effect on the copy is `submit`, and the transmit-ready flag is cleared. -/
theorem acceptedTxbufWriteSubmits : Obligations.AcceptedTxbufWriteSubmits := by
  intro u wdata cycle s hpath
  have hgate : (s.usart u).txGate = true := (Usart.txGate_eq_true_iff _).mpr hpath
  have hcopy := usart_effect_wrTxbuf hgate wdata cycle
  refine ⟨_, exec_eq_effect trivial, ?copy, fun h => ?loaded, fun h => ?shifting, fun b => ?flag, rfl,
    sameElsewhere_effect (.wrTxbuf u wdata cycle) s⟩
  case copy => simp only [hcopy, Usart.submit_eq, Usart.txState_idle_iff]
  case loaded =>
    rw [hcopy]
    exact Usart.txState_submit_of_ne_shifting h ..
  case shifting =>
    rw [hcopy]
    exact Usart.txState_submit_of_shifting h ..
  case flag => rw [ifg_effect_wrTxbuf hgate, clearBits_testBit]

/-! ## TICK (R179 to R181) -/

theorem exec_tick_of_event {s : State} {u : UsartId} {t target : Nat} (hev : (s.usart u).event = some target)
    (hdue : target ≤ t) : exec (.tick u t) s = .next (effect (.tick u t) s) :=
  exec_eq_effect ((Usart.tickDue_iff _ _).mpr ⟨target, hev, hdue⟩)

theorem usart_effect_tick (u : UsartId) (t : Nat) (s : State) :
    (effect (.tick u t) s).usart u = (s.usart u).tick (s.cfg.unit u) t :=
  usart_effect_same (.tick u t) s

/-- Outside its copy a TICK raises the transmit-ready flag, changes nothing else and returns nothing. -/
theorem frame_effect_tick (u : UsartId) (t : Nat) (s : State) :
    FlagsSet (s.cfg.unit u).txifgMask s (effect (.tick u t) s) ∧ (effect (.tick u t) s).rdata = none ∧
      SameElsewhere u s (effect (.tick u t) s) :=
  ⟨flagsSet_setFlag s _, rfl, sameElsewhere_effect (.tick u t) s⟩

theorem transmitReady_effect_tick {s : State} {u : UsartId} (hm : (s.cfg.unit u).txifgMask ≠ 0) (t : Nat) :
    (effect (.tick u t) s).transmitReady u = true := by
  simpa [State.transmitReady, State.getFlags, flagEffect, copyOf, targetOf] using or_and_self_ne_zero hm

/-- What a due TICK leaves of the copy and of its transmit-ready flag, under a legal mask. -/
theorem exists_exec_tick {s : State} {u : UsartId} {t target : Nat} (hm : (s.cfg.unit u).txifgMask ≠ 0)
    (hev : (s.usart u).event = some target) (hdue : target ≤ t) :
    ∃ s', exec (.tick u t) s = .next s' ∧ s'.cfg = s.cfg ∧
      s'.usart u = (s.usart u).tick (s.cfg.unit u) t ∧ s'.transmitReady u = true :=
  ⟨_, exec_tick_of_event hev hdue, cfg_effect .., usart_effect_tick .., transmitReady_effect_tick hm t⟩

/-- Settles O31: the four states of a TICK on the copy, and the frame of a TICK. -/
theorem tickMovesTheByte : Obligations.TickMovesTheByte := by
  intro u t target s hev hdue
  have hcopy := usart_effect_tick u t s
  exact ⟨_, exec_tick_of_event hev hdue,
    fun hsr hq => hcopy.trans (Usart.tick_idle _ t hsr hq),
    fun hsr hq => hcopy.trans (Usart.tick_loaded _ t hsr hq),
    fun _ hsr hq => hcopy.trans (Usart.tick_done _ t hsr hq),
    fun _ hsr hq => hcopy.trans (Usart.tick_next _ t hsr hq),
    frame_effect_tick u t s⟩

/-- Settles O32: neither an absent event nor one with a later target is due. -/
theorem tickBeforeItsTargetRefused : Obligations.TickBeforeItsTargetRefused := by
  intro u t s h
  have hdue : ¬ (s.usart u).tickDue t = true := by
    rw [Usart.tickDue_iff]
    rintro ⟨target, hev, hle⟩
    obtain hnone | ⟨target', hev', hlt⟩ := h
    · simp [hnone] at hev
    · obtain rfl : target = target' := Option.some.inj (hev.symm.trans hev')
      exact absurd hle (Nat.not_le_of_lt hlt)
  exact if_neg hdue

/-- Settles O33: in idle a TICK consumes its event and has nothing to move. -/
theorem tickInIdleOnlyRaisesFlag : Obligations.TickInIdleOnlyRaisesFlag := by
  intro u t target s hidle hev hdue
  obtain ⟨hsr, hq⟩ := (Usart.txState_idle_iff _).mp hidle
  exact ⟨_, exec_tick_of_event hev hdue, (usart_effect_tick u t s).trans (Usart.tick_idle _ t hsr hq),
    frame_effect_tick u t s⟩

/-! ## The life of one byte (R184) -/

section
variable {x : Usart} (hidle : x.txState = .idle) (c : UnitConfig) (b : Byte) (n : Nat)
include hidle

theorem Usart.event_submit_of_idle : (x.submit c b n).event = some (n + 3) := by
  rw [Usart.event_submit, if_pos hidle]

/-- The load of a byte accepted in idle. -/
theorem Usart.tick_submit_of_idle (t : Nat) :
    (x.submit c b n).tick c t = { x.submit c b n with
      txsr := some b, txqValid := false, event := some (t + x.ticksPerByte + 1) } := by
  obtain ⟨hsr, -⟩ := (Usart.txState_idle_iff _).mp hidle
  rw [Usart.tick_loaded c t (by simpa using hsr) (by simp)]
  simp

end

/-- Settles O35: the copy is `submit`, then one TICK, then the other; each event is fired at its target. -/
theorem oneByteTimeline : Obligations.OneByteTimeline := by
  intro u b T s hw hidle hpath
  have hgate : (s.usart u).txGate = true := (Usart.txGate_eq_true_iff _).mpr hpath
  obtain ⟨-, hflag, -⟩ := UnitConfig.wf_facts (Config.wf_unit hw u)
  obtain ⟨s₁, hexec₁, hcfg₁, hcopy₁, hready₁⟩ := exists_exec_wrTxbuf hgate b T
  have hev₁ : (s₁.usart u).event = some (T + 3) := by rw [hcopy₁, Usart.event_submit_of_idle hidle]
  obtain ⟨s₂, hexec₂, hcfg₂, hcopy₂, hready₂⟩ := exists_exec_tick (hcfg₁ ▸ hflag) hev₁ le_rfl
  rw [hcopy₁, hcfg₁, Usart.tick_submit_of_idle hidle] at hcopy₂
  have hev₂ : (s₂.usart u).event = some (T + (s.usart u).ticksPerByte + 4) := by
    simp only [hcopy₂, Option.some.injEq]
    omega
  obtain ⟨s₃, hexec₃, -, hcopy₃, hready₃⟩ := exists_exec_tick (hcfg₂ ▸ hcfg₁ ▸ hflag) hev₂ le_rfl
  rw [hcopy₂, hcfg₂, hcfg₁, Usart.tick_done _ _ rfl rfl] at hcopy₃
  have hbusy : ((s.usart u).submit (s.cfg.unit u) b T).txept (s.cfg.unit u) = false := Usart.txept_submit ..
  refine ⟨s₁, s₂, s₃,
    hexec₁, hev₁, hready₁, hcopy₁ ▸ hbusy, by simp [hcopy₁],
    hexec₂, by rw [hcopy₂], hev₂, hready₂, ?busy, by simp [hcopy₂],
    hexec₃, by simp [hcopy₃, Usart.txState_idle_iff], by rw [hcopy₃], hready₃, ?empty, by simp [hcopy₃]⟩
  case busy =>
    rw [hcopy₂]
    exact hbusy
  case empty =>
    rw [hcopy₃]
    exact Usart.txept_setTxept (x := (s.usart u).submit (s.cfg.unit u) b T) (txeptMask_ne_zero hw u)

/-! ## Who tells the listener, and who moves the engine (R182, R183, R209) -/

theorem Usart.toldAtTick_cases (x : Usart) (c : UnitConfig) :
    x.toldAtTick c = [] ∨
    (c.listener = true ∧ ∃ b, x.txsr = some b ∧ x.toldAtTick c = [.byteAvailableForTransmit b]) := by
  cases hsr : x.txsr with
  | none => exact .inl (by simp [Usart.toldAtTick, hsr])
  | some b => cases hl : c.listener <;> simp [Usart.toldAtTick, hsr, hl]

theorem Usart.txState_congr {x y : Usart} (hsr : y.txsr = x.txsr) (hq : y.txqValid = x.txqValid) :
    y.txState = x.txState := by
  simp only [Usart.txState, hsr, hq]

section
variable {i : Instr} {f : Freqs} {ie : Nat} {c : UnitConfig} {x : Usart}

/-- What an operation appends to the notification trace of its copy. -/
theorem notes_copyEffect_cases :
    (copyEffect i f ie c x).notes = x.notes ∨
    (c.listener = true ∧
      ((∃ n, i = .rdRxbuf (copyOf i) n ∧ (copyEffect i f ie c x).notes = x.notes ++ [.receiveFlagCleared]) ∨
       (∃ n b, i = .tick (copyOf i) n ∧ x.txsr = some b ∧
          (copyEffect i f ie c x).notes = x.notes ++ [.byteAvailableForTransmit b]))) := by
  cases i with
  | rdRxbuf u n =>
    cases hl : c.listener with
    | false => exact .inl (by simp [copyEffect, hl])
    | true => exact .inr ⟨rfl, .inl ⟨n, rfl, by simp [copyEffect, hl]⟩⟩
  | tick u t =>
    obtain htold | ⟨hl, b, hsr, htold⟩ := x.toldAtTick_cases c
    · exact .inl (by simp [copyEffect, htold])
    · exact .inr ⟨hl, .inr ⟨t, b, rfl, hsr, by simp [copyEffect, htold]⟩⟩
  | _ => exact .inl (by simp [copyEffect, apply_ite Usart.notes])

theorem engineMover_of_ne
    (h : (copyEffect i f ie c x).txsr ≠ x.txsr ∨ (copyEffect i f ie c x).txqValid ≠ x.txqValid ∨
      (copyEffect i f ie c x).event ≠ x.event) :
    (x.txGate = true ∧ ∃ w n, i = .wrTxbuf (copyOf i) w n) ∨ (∃ n, i = .tick (copyOf i) n) ∨
      ∃ n, i = .reset (copyOf i) n := by
  cases i with
  | wrTxbuf u w n =>
    refine .inl ⟨?_, w, n, rfl⟩
    by_contra hshut
    simp [copyEffect, hshut] at h
  | tick u t => exact .inr (.inl ⟨t, rfl⟩)
  | reset u n => exact .inr (.inr ⟨n, rfl⟩)
  | _ => simp [copyEffect, apply_ite Usart.txsr, apply_ite Usart.txqValid, apply_ite Usart.event] at h

end

/-- Settles O34: the addressed copy, operation by operation; the other copy is untouched. -/
theorem notificationsComeFromTickAndRxbuf : Obligations.NotificationsComeFromTickAndRxbuf := by
  intro i s t u hexec
  obtain ⟨-, rfl⟩ := exec_next hexec
  by_cases hu : u = copyOf i
  · subst hu
    rw [usart_effect_same]
    exact notes_copyEffect_cases
  · exact .inl (by rw [usart_effect_ne i s hu])

/-- Settles O44: TransmitState is a function of the two valid bits, which only the three operations write. -/
theorem engineMovedByThreeOperations : Obligations.EngineMovedByThreeOperations := by
  intro i s t u hexec hmoved
  obtain ⟨-, rfl⟩ := exec_next hexec
  by_cases hu : u = copyOf i
  · subst hu
    rw [usart_effect_same] at hmoved
    refine engineMover_of_ne (f := s.freqs) (ie := s.ie) (c := s.cfg.unit (copyOf i)) ?_
    by_contra hsame
    push Not at hsame
    obtain ⟨hsr, hq, hev⟩ := hsame
    have hst := Usart.txState_congr hsr hq
    simp [hsr, hq, hev, hst] at hmoved
  · simp [usart_effect_ne i s hu] at hmoved

end Sys2Proof.Machine
end

section
/-! SUPPORT. The receive path, the flag bridge and the enable notifications (43_receive_and_flag_bridge.md): what DELIVER and
ENCHG leave, and that an operation reaches one copy and the flags of that copy alone. -/

namespace Sys2Proof.Machine

/-! ## Isolation of the copies (R211) -/

/-- An operation addresses the copy it may change, or addresses none and changes `rdata` alone (20_memory.md R70). -/
theorem targetOf_eq_or_effect_eq (i : Instr) (s : State) :
    targetOf i = some (copyOf i) ∨ effect i s = { s with rdata := answerOf i (s.usart (copyOf i)) } := by
  cases i with
  | rdNone addr n => exact .inr rfl
  | wrNone addr w n => exact .inr rfl
  | _ => exact .inl rfl

/-- An operation writes no bit of `IFG` outside the two masks of its copy (R204, R205). -/
theorem testBit_flagEffect_of_not_mask {c : UnitConfig} {b : Nat} (h : (c.txifgMask ||| c.rxifgMask).testBit b = false)
    (i : Instr) (x : Usart) (v : Nat) : (flagEffect i c x v).testBit b = v.testBit b := by
  obtain ⟨htx, hrx⟩ : c.txifgMask.testBit b = false ∧ c.rxifgMask.testBit b = false := by simpa using h
  cases i with
  | wrTxbuf u w n => simp only [flagEffect]; split <;> simp [htx]
  | deliver u a n => simp only [flagEffect]; split <;> simp [hrx]
  | _ => simp [flagEffect, htx, hrx]

/-- A flag bit of one copy is no flag bit of the other (00_scope.md R8). -/
theorem testBit_mask_of_ne {c : Config} (hw : c.wf = true) {u v : UsartId} (hne : v ≠ u) {b : Nat}
    (hb : ((c.unit v).txifgMask ||| (c.unit v).rxifgMask).testBit b = true) :
    ((c.unit u).txifgMask ||| (c.unit u).rxifgMask).testBit b = false := by
  have hand := congrArg (Nat.testBit · b) (masks_disjoint hw hne)
  simpa only [Nat.testBit_and, hb, Bool.true_and, Nat.zero_testBit] using hand

/-- Settles O45: the copy addressed is another one, whose masks are disjoint from this one's, or none is addressed. -/
theorem copiesAreIsolated : Obligations.CopiesAreIsolated := by
  intro i s t v hw hexec hv
  obtain ⟨-, rfl⟩ := exec_next hexec
  obtain htarget | heffect := targetOf_eq_or_effect_eq i s
  · have hne : v ≠ copyOf i := by
      rintro rfl
      exact hv htarget
    obtain ⟨hcopies, hhost⟩ := sameElsewhere_effect i s
    refine ⟨hcopies v hne, fun b hb => ?_, hhost⟩
    rw [ifg_effect, testBit_flagEffect_of_not_mask (testBit_mask_of_ne hw hne hb)]
  · rw [heffect]
    exact ⟨rfl, fun _ _ => rfl, rfl, rfl, rfl, rfl, rfl⟩

/-! ## DELIVER (R200 to R203) -/

theorem exec_deliver_of_disabled {s : State} {u : UsartId} (hoff : (s.usart u).rxEnabled = false) (b cycle : Nat) :
    exec (.deliver u b cycle) s = .next { s with rdata := none } :=
  if_neg (by simp [hoff])

theorem receivedByte_eq_mod (b : Nat) : receivedByte b = BitVec.ofNat 8 (b % 256) :=
  BitVec.eq_of_toNat_eq (by simp [receivedByte])

/-- The free choice is between one diagnostic and none (R203; 93_implementation_defined.md U13). -/
theorem Usart.exists_rxDiagnostic_eq (x : Usart) (u : UsartId) (e : Bool) :
    ∃ d, (d = [] ∨ d = [Diagnostic.rxIrqEnabled]) ∧
      x.rxDiagnostic u e = { x with diags := x.diags ++ d, draws := x.draws + 1 } := by
  refine ⟨_, ?_, rfl⟩
  cases Config.rxDiagnosticEmitted u x.draws e with
  | false => exact .inl rfl
  | true => exact .inr rfl

section
variable {s : State} {u : UsartId} (hon : (s.usart u).rxEnabled = true) (b n : Nat)
include hon

theorem usart_effect_deliver :
    (effect (.deliver u b n) s).usart u =
      { s.usart u with rxbuf := receivedByte b }.rxDiagnostic u (s.isEnabled (s.cfg.unit u).rxifgMask) :=
  (usart_effect_same (.deliver u b n) s).trans (if_pos hon)

theorem ifg_effect_deliver : (effect (.deliver u b n) s).ifg = s.ifg ||| (s.cfg.unit u).rxifgMask :=
  (ifg_effect (.deliver u b n) s).trans (if_pos hon)

theorem receiveReady_effect_deliver (hm : (s.cfg.unit u).rxifgMask ≠ 0) :
    (effect (.deliver u b n) s).receiveReady u = true := by
  simp only [State.receiveReady, State.getFlags, ifg_effect_deliver hon, cfg_effect, bne_iff_ne]
  exact or_and_self_ne_zero hm

/-- What an accepted byte leaves of the copy's receive path and of its receive-ready flag, under a legal mask. -/
theorem exists_exec_deliver (hm : (s.cfg.unit u).rxifgMask ≠ 0) :
    ∃ t, exec (.deliver u b n) s = .next t ∧ t.cfg = s.cfg ∧ t.receiveReady u = true ∧
      (t.usart u).rxEnabled = true ∧ (t.usart u).rxbuf = receivedByte b ∧ (t.usart u).rctl = (s.usart u).rctl := by
  refine ⟨_, exec_eq_effect trivial, cfg_effect .., receiveReady_effect_deliver hon b n hm, ?_⟩
  rw [usart_effect_deliver hon]
  exact ⟨hon, rfl, rfl⟩

end

theorem receiveReady_effect_rdRxbuf (u : UsartId) (n : Nat) (s : State) :
    (effect (.rdRxbuf u n) s).receiveReady u = false := by
  simp only [State.receiveReady, State.getFlags, ifg_effect_rdRxbuf, cfg_effect, clearBits_and_self, bne_self_eq_false]

/-- Settles O36: the gate is `rx_enabled`; past it the byte and the flag are written, and `IE` reaches the diagnostic alone. -/
theorem deliverLatchesWhenEnabled : Obligations.DeliverLatchesWhenEnabled := by
  intro u b cycle s
  refine ⟨fun hoff => exec_deliver_of_disabled hoff b cycle, fun hon => ?_⟩
  obtain ⟨d, hd, hdiag⟩ := Usart.exists_rxDiagnostic_eq { s.usart u with rxbuf := receivedByte b } u
    (s.isEnabled (s.cfg.unit u).rxifgMask)
  refine ⟨_, d, exec_eq_effect trivial, hd, ?copy, fun k => ?flag, rfl, sameElsewhere_effect (.deliver u b cycle) s⟩
  case copy => rw [usart_effect_deliver hon, hdiag, receivedByte_eq_mod]
  case flag => rw [ifg_effect_deliver hon, Nat.testBit_or]

/-- Settles O37: each delivery writes RXBUF over what it held and sets the flag; the read echoes RXBUF and clears the flag. -/
theorem secondDeliveryOverwrites : Obligations.SecondDeliveryOverwrites := by
  intro u b₁ b₂ c₁ c₂ c₃ s hw hon
  obtain ⟨-, -, -, hm, -⟩ := UnitConfig.wf_facts (Config.wf_unit hw u)
  obtain ⟨t₁, hexec₁, hcfg₁, hready₁, hon₁, -, hrctl₁⟩ := exists_exec_deliver hon b₁ c₁ hm
  obtain ⟨t₂, hexec₂, -, hready₂, -, hrxbuf₂, hrctl₂⟩ := exists_exec_deliver hon₁ b₂ c₂ (hcfg₁ ▸ hm)
  refine ⟨t₁, t₂, _, hexec₁, hready₁, hexec₂, hready₂, hrctl₂.trans hrctl₁, exec_eq_effect trivial, ?_,
    receiveReady_effect_rdRxbuf ..⟩
  rw [rdata_effect_rdRxbuf, hrxbuf₂, receivedByte]

/-! ## ENCHG (R208) -/

/-- Settles O38: the effect on the copy is the change of the path enable its bit names, and no flag is touched. -/
theorem enableNotificationSetsItsPath : Obligations.EnableNotificationSetsItsPath := by
  intro u bit on s
  have hcopy : (effect (.enchg u bit on) s).usart u = (s.usart u).enableChange (s.cfg.unit u) bit on :=
    usart_effect_same (.enchg u bit on) s
  exact ⟨_, exec_eq_effect trivial, hcopy.trans (Usart.enableChange_eq ..), rfl, rfl,
    sameElsewhere_effect (.enchg u bit on) s⟩

end Sys2Proof.Machine
end

section
/-! SUPPORT. The rules of 60_exceptions.md over every operation: when it completes, what it does to the three flags of each
copy, and that operations of different copies commute. -/

namespace Sys2Proof.Machine

/-! ## When an operation completes (R225, R226) -/

theorem performable_iff (i : Instr) (s : State) :
    Performable i s ↔ ∀ u t, i = .tick u t → ∃ target, (s.usart u).event = some target ∧ target ≤ t := by
  cases i with
  | tick u t => simp [Performable, Usart.tickDue_iff]
  | _ => simp

/-- Settles O9: an operation answers exactly when it may be performed, and there is no fault to stop with. -/
theorem everyOperationIsTotal : Obligations.EveryOperationIsTotal := by
  intro i s
  refine ⟨?_, nofun⟩
  rw [← performable_iff]
  exact ⟨fun ⟨_, hexec⟩ => (exec_next hexec).1, fun hp => ⟨_, exec_eq_effect hp⟩⟩

/-! ## The flag matrix (R227, R228) -/

theorem clearBits_or_and_left (v m k : Nat) : clearBits v (m ||| k) &&& m = 0 :=
  Nat.eq_of_testBit_eq fun b => by
    simp only [Nat.testBit_and, clearBits_testBit, Nat.testBit_or, Nat.zero_testBit]
    cases m.testBit b <;> simp

theorem clearBits_or_and_right (v m k : Nat) : clearBits v (m ||| k) &&& k = 0 := by
  rw [Nat.or_comm, clearBits_or_and_left]

theorem and_eq_and_of_testBit_eq {m v w : Nat} (h : ∀ b, m.testBit b = true → v.testBit b = w.testBit b) :
    v &&& m = w &&& m :=
  Nat.eq_of_testBit_eq fun b => by
    rw [Nat.testBit_and, Nat.testBit_and]
    cases hb : m.testBit b with
    | false => simp only [Bool.and_false]
    | true => rw [h b hb]

theorem Usart.txept_congr {x y : Usart} (h : y.tctl = x.tctl) (c : UnitConfig) : y.txept c = x.txept c := by
  simp only [Usart.txept, h]

theorem Usart.txept_writeTctl (x : Usart) (c : UnitConfig) (w : Byte) (k : Clock) (f : Freqs) :
    ({ x with tctl := storedTctl c x.tctl w, clkSel := k }.recompute f).txept c = x.txept c := by
  simp only [Usart.txept, anySet, Usart.tctl_recompute, storedTctl_txept]

section
variable {c : UnitConfig} (hm : c.txeptMask ≠ 0) (x : Usart)
include hm

theorem Usart.txept_tick (t : Nat) :
    (x.tick c t).txept c = if x.txState = .shifting ∧ x.txqValid = false then true else x.txept c := by
  split
  · next h => exact (Usart.txept_congr (by simp [h]) c).trans (Usart.txept_setTxept (x := x) hm)
  · next h => exact Usart.txept_congr (by simp [h]) c

theorem Usart.txept_resetAt (n : Nat) : (x.resetAt c n).txept c = true :=
  (Usart.txept_congr rfl c).trans (Usart.txept_setTxept (x := x) hm)

end

section
variable {s t : State} {u : UsartId} (hcfg : t.cfg = s.cfg)
include hcfg

theorem State.transmitReady_congr (h : t.ifg &&& (s.cfg.unit u).txifgMask = s.ifg &&& (s.cfg.unit u).txifgMask) :
    t.transmitReady u = s.transmitReady u := by
  simp only [State.transmitReady, State.getFlags, hcfg, h]

theorem State.receiveReady_congr (h : t.ifg &&& (s.cfg.unit u).rxifgMask = s.ifg &&& (s.cfg.unit u).rxifgMask) :
    t.receiveReady u = s.receiveReady u := by
  simp only [State.receiveReady, State.getFlags, hcfg, h]

end

/-- The three flags of copy `u` (10_state.md R36 to R38) read as before: an empty row of the matrix. -/
abbrev FlagsLeft (u : UsartId) (s t : State) : Prop :=
  t.transmitReady u = s.transmitReady u ∧ t.receiveReady u = s.receiveReady u ∧
    (t.usart u).txept (s.cfg.unit u) = (s.usart u).txept (s.cfg.unit u)

/-- An operation that leaves `IFG` and its copy's TXEPT leaves the three flags of its copy. -/
theorem flagsLeft_effect {i : Instr} {s : State}
    (hifg : flagEffect i (s.cfg.unit (copyOf i)) (s.usart (copyOf i)) s.ifg = s.ifg)
    (hept : (copyEffect i s.freqs s.ie (s.cfg.unit (copyOf i)) (s.usart (copyOf i))).txept (s.cfg.unit (copyOf i)) =
      (s.usart (copyOf i)).txept (s.cfg.unit (copyOf i))) :
    FlagsLeft (copyOf i) s (effect i s) := by
  refine ⟨State.transmitReady_congr (cfg_effect i s) ?_, State.receiveReady_congr (cfg_effect i s) ?_, ?_⟩
  · rw [ifg_effect, hifg]
  · rw [ifg_effect, hifg]
  · rw [usart_effect_same, hept]

theorem usart_effect_reset (u : UsartId) (n : Nat) (s : State) :
    (effect (.reset u n) s).usart u = (s.usart u).resetAt (s.cfg.unit u) n :=
  usart_effect_same (.reset u n) s

theorem ifg_effect_reset (u : UsartId) (n : Nat) (s : State) :
    (effect (.reset u n) s).ifg = clearBits s.ifg ((s.cfg.unit u).txifgMask ||| (s.cfg.unit u).rxifgMask) := rfl

section
variable {s : State} {u : UsartId} (hw : s.cfg.wf = true)
include hw

theorem flagsLeft_of_targetOf_ne {i : Instr} {t : State} (hexec : exec i s = .next t) (hu : targetOf i ≠ some u) :
    FlagsLeft u s t := by
  obtain ⟨hcopy, hbits, hcfg, -⟩ := copiesAreIsolated i s t u hw hexec hu
  refine ⟨State.transmitReady_congr hcfg ?_, State.receiveReady_congr hcfg ?_, by rw [hcopy]⟩
  all_goals exact and_eq_and_of_testBit_eq fun b hb => hbits b (by simp [hb])

/-- The two flag masks of one copy do not meet (00_scope.md R8). -/
theorem txifgMask_and_rxifgMask : (s.cfg.unit u).txifgMask &&& (s.cfg.unit u).rxifgMask = 0 := by
  obtain ⟨-, -, -, -, -, hdisj, -⟩ := UnitConfig.wf_facts (Config.wf_unit hw u)
  exact hdisj

theorem rxifgMask_and_txifgMask : (s.cfg.unit u).rxifgMask &&& (s.cfg.unit u).txifgMask = 0 := by
  rw [Nat.and_comm, txifgMask_and_rxifgMask hw]

theorem flags_effect_wrTxbuf (hgate : (s.usart u).txGate = true) (w : Byte) (n : Nat) :
    (effect (.wrTxbuf u w n) s).transmitReady u = false ∧
    (effect (.wrTxbuf u w n) s).receiveReady u = s.receiveReady u ∧
    ((effect (.wrTxbuf u w n) s).usart u).txept (s.cfg.unit u) = false := by
  refine ⟨transmitReady_effect_wrTxbuf hgate w n, State.receiveReady_congr (cfg_effect ..) ?receive, ?empty⟩
  case receive => rw [ifg_effect_wrTxbuf hgate, clearBits_and_of_disjoint (txifgMask_and_rxifgMask hw)]
  case empty => rw [usart_effect_wrTxbuf hgate, Usart.txept_submit]

theorem flags_effect_tick (t : Nat) :
    (effect (.tick u t) s).transmitReady u = true ∧
    (effect (.tick u t) s).receiveReady u = s.receiveReady u ∧
    ((effect (.tick u t) s).usart u).txept (s.cfg.unit u) =
      if (s.usart u).txState = .shifting ∧ (s.usart u).txqValid = false then true
      else (s.usart u).txept (s.cfg.unit u) := by
  obtain ⟨-, hm, -⟩ := UnitConfig.wf_facts (Config.wf_unit hw u)
  refine ⟨transmitReady_effect_tick hm t, State.receiveReady_congr (cfg_effect ..) ?receive, ?empty⟩
  case receive => exact or_and_of_disjoint (txifgMask_and_rxifgMask hw)
  case empty => rw [usart_effect_tick, Usart.txept_tick (txeptMask_ne_zero hw u)]

theorem flags_effect_reset (n : Nat) :
    (effect (.reset u n) s).transmitReady u = false ∧
    (effect (.reset u n) s).receiveReady u = false ∧
    ((effect (.reset u n) s).usart u).txept (s.cfg.unit u) = true := by
  refine ⟨?transmit, ?receive, ?empty⟩
  case transmit =>
    simp only [State.transmitReady, State.getFlags, ifg_effect_reset, cfg_effect, clearBits_or_and_left, bne_self_eq_false]
  case receive =>
    simp only [State.receiveReady, State.getFlags, ifg_effect_reset, cfg_effect, clearBits_or_and_right, bne_self_eq_false]
  case empty => rw [usart_effect_reset, Usart.txept_resetAt (txeptMask_ne_zero hw u)]

theorem flags_effect_rdRxbuf (n : Nat) :
    (effect (.rdRxbuf u n) s).transmitReady u = s.transmitReady u ∧
    (effect (.rdRxbuf u n) s).receiveReady u = false ∧
    ((effect (.rdRxbuf u n) s).usart u).txept (s.cfg.unit u) = (s.usart u).txept (s.cfg.unit u) := by
  refine ⟨State.transmitReady_congr (cfg_effect ..) ?transmit, receiveReady_effect_rdRxbuf u n s, ?empty⟩
  case transmit => rw [ifg_effect_rdRxbuf, clearBits_and_of_disjoint (rxifgMask_and_txifgMask hw)]
  case empty => exact Usart.txept_congr (by rw [usart_effect_rdRxbuf]) _

theorem flags_effect_deliver (hon : (s.usart u).rxEnabled = true) (b n : Nat) :
    (effect (.deliver u b n) s).transmitReady u = s.transmitReady u ∧
    (effect (.deliver u b n) s).receiveReady u = true ∧
    ((effect (.deliver u b n) s).usart u).txept (s.cfg.unit u) = (s.usart u).txept (s.cfg.unit u) := by
  obtain ⟨-, -, -, hm, -⟩ := UnitConfig.wf_facts (Config.wf_unit hw u)
  refine ⟨State.transmitReady_congr (cfg_effect ..) ?transmit, receiveReady_effect_deliver hon b n hm, ?empty⟩
  case transmit => rw [ifg_effect_deliver hon, or_and_of_disjoint (rxifgMask_and_txifgMask hw)]
  case empty => exact Usart.txept_congr (by rw [usart_effect_deliver hon, Usart.tctl_rxDiagnostic]) _

end

/-- Settles O41: an operation of the other copy, or of none, leaves the three flags; of the copy's own operations five have a
row of their own, two of them behind a gate, and the others leave `IFG` and TXEPT. -/
theorem flagMatrix : Obligations.FlagMatrix := by
  intro i s t u hw hexec
  by_cases hu : targetOf i = some u
  case neg =>
    have hleft := flagsLeft_of_targetOf_ne hw hexec hu
    cases i
    case wrTxbuf v _ _ | tick v _ | reset v _ | rdRxbuf v _ | deliver v _ _ =>
      have hv : v ≠ u := fun h => hu (congrArg some h)
      simpa only [hv, false_and, if_false] using hleft
    all_goals exact hleft
  case pos =>
    obtain ⟨-, rfl⟩ := exec_next hexec
    obtain rfl : copyOf i = u := by rw [copyOf, hu, Option.getD_some]
    cases i with
    | wrTxbuf v w n =>
      by_cases hgate : (s.usart v).txGate = true
      · simpa [copyOf, targetOf, hgate] using flags_effect_wrTxbuf hw hgate w n
      · simpa [copyOf, targetOf, hgate] using flagsLeft_effect (i := .wrTxbuf v w n) (if_neg hgate)
          ((congrArg (Usart.txept · _) (if_neg hgate)).trans rfl)
    | tick v t => simpa [copyOf, targetOf] using flags_effect_tick (u := v) hw t
    | reset v n => simpa [copyOf, targetOf] using flags_effect_reset (u := v) hw n
    | rdRxbuf v n => simpa [copyOf, targetOf] using flags_effect_rdRxbuf (u := v) hw n
    | deliver v b n =>
      by_cases hon : (s.usart v).rxEnabled = true
      · simpa [copyOf, targetOf, hon] using flags_effect_deliver hw hon b n
      · simpa [copyOf, targetOf, hon] using flagsLeft_effect (i := .deliver v b n) (if_neg hon)
          (congrArg (Usart.txept · _) (if_neg hon))
    | wrTctl v w n => exact flagsLeft_effect rfl (Usart.txept_writeTctl ..)
    | enchg v bit on => exact flagsLeft_effect rfl (Usart.txept_congr (Usart.tctl_enableChange ..) _)
    | _ => exact flagsLeft_effect rfl rfl

/-! ## Operations of different copies commute (R239) -/

/-- Every operation treats `IFG` bit by bit (43_receive_and_flag_bridge.md R204, R205). -/
theorem testBit_flagEffect_congr {v w b : Nat} (h : v.testBit b = w.testBit b) (i : Instr) (c : UnitConfig) (x : Usart) :
    (flagEffect i c x v).testBit b = (flagEffect i c x w).testBit b := by
  cases i with
  | wrTxbuf u d n => simp only [flagEffect]; split <;> simp [h]
  | deliver u a n => simp only [flagEffect]; split <;> simp [h]
  | _ => simp [flagEffect, h]

/-- Each bit of `IFG` is in the masks of at most one of the two copies, so only that copy's operation writes it. -/
theorem flagEffect_comm {c d : UnitConfig}
    (hmask : ∀ b, (c.txifgMask ||| c.rxifgMask).testBit b = false ∨ (d.txifgMask ||| d.rxifgMask).testBit b = false)
    (i j : Instr) (x y : Usart) (v : Nat) :
    flagEffect j d y (flagEffect i c x v) = flagEffect i c x (flagEffect j d y v) := by
  refine Nat.eq_of_testBit_eq fun b => ?_
  obtain hc | hd := hmask b
  · rw [testBit_flagEffect_of_not_mask hc]
    exact testBit_flagEffect_congr (testBit_flagEffect_of_not_mask hc ..) ..
  · rw [testBit_flagEffect_of_not_mask hd]
    exact testBit_flagEffect_congr (testBit_flagEffect_of_not_mask hd ..).symm ..

theorem State.usart_withoutAnswer (s : State) (u : UsartId) : s.withoutAnswer.usart u = s.usart u :=
  State.usart_mk ..

theorem effect_of_targetOf_eq_none {i : Instr} (h : targetOf i = none) (s : State) :
    effect i s = { s with rdata := answerOf i (s.usart (copyOf i)) } :=
  (targetOf_eq_or_effect_eq i s).resolve_left (by simp [h])

/-- No operation reads what the one before returned. -/
theorem effect_rdata (i : Instr) (s : State) (r : Option Byte) : effect i { s with rdata := r } = effect i s := by
  refine State.ext_usart ?_ (fun u => ?_) ?_ ?_ ?_ ?_ ?_ ?_ <;> simp [usart_effect]

theorem effect_comm_of_unselected {i : Instr} (h : targetOf i = none) (j : Instr) (s : State) :
    (effect j (effect i s)).withoutAnswer = (effect i (effect j s)).withoutAnswer := by
  rw [effect_of_targetOf_eq_none h, effect_of_targetOf_eq_none h, effect_rdata]
  rfl

/-- Each operation writes its own copy and its own flag bits, and reads nothing that the other writes. -/
theorem effect_comm_of_copyOf_ne {i j : Instr} {s : State} (hw : s.cfg.wf = true) (hne : copyOf i ≠ copyOf j) :
    (effect j (effect i s)).withoutAnswer = (effect i (effect j s)).withoutAnswer := by
  refine State.ext_usart ?_ (fun u => ?copy) ?flags ?_ ?_ ?_ ?_ ?_
  case copy =>
    rw [State.usart_withoutAnswer, State.usart_withoutAnswer]
    by_cases hi : u = copyOf i
    · subst hi
      simp [usart_effect, hne]
    · simp [usart_effect, hi]
  case flags =>
    have hmask (b : Nat) : ((s.cfg.unit (copyOf i)).txifgMask ||| (s.cfg.unit (copyOf i)).rxifgMask).testBit b = false ∨
        ((s.cfg.unit (copyOf j)).txifgMask ||| (s.cfg.unit (copyOf j)).rxifgMask).testBit b = false := by
      simpa only [or_iff_not_imp_left, Bool.not_eq_false] using testBit_mask_of_ne hw hne
    simp only [State.withoutAnswer, ifg_effect, cfg_effect, usart_effect_ne _ _ hne, usart_effect_ne _ _ hne.symm]
    exact flagEffect_comm hmask ..
  all_goals simp [State.withoutAnswer]

theorem performable_of_usart_eq {j : Instr} {s t : State} (hp : Performable j s)
    (h : ∀ u, targetOf j = some u → t.usart u = s.usart u) : Performable j t := by
  cases j with
  | tick u n => simpa only [Performable, h u rfl] using hp
  | _ => trivial

/-- Settles O46: each operation leaves the copy the other addresses, so both orders complete; an unselected access changes the
answer alone, and the effects on two copies commute. -/
theorem operationsOfCopiesCommute : Obligations.OperationsOfCopiesCommute := by
  intro i j s s₁ s₂ hw hapart hi hj
  have hpj : Performable j s₁ := performable_of_usart_eq (exec_next hj).1 fun u hu =>
    (copiesAreIsolated i s s₁ u hw hi fun h => hapart u ⟨h, hu⟩).1
  have hpi : Performable i s₂ := performable_of_usart_eq (exec_next hi).1 fun u hu =>
    (copiesAreIsolated j s s₂ u hw hj fun h => hapart u ⟨hu, h⟩).1
  refine ⟨_, _, exec_eq_effect hpj, exec_eq_effect hpi, ?_⟩
  obtain ⟨-, rfl⟩ := exec_next hi
  obtain ⟨-, rfl⟩ := exec_next hj
  cases hti : targetOf i with
  | none => exact effect_comm_of_unselected hti j s
  | some u =>
    cases htj : targetOf j with
    | none => exact (effect_comm_of_unselected htj i s).symm
    | some v =>
      refine effect_comm_of_copyOf_ne hw fun h => hapart u ⟨hti, ?_⟩
      obtain rfl : u = v := by simpa only [copyOf, hti, htj, Option.getD_some] using h
      exact htj

end Sys2Proof.Machine
end

section
/-! SUPPORT. RESET (70_reset_and_hazards.md): what it writes, that a second one absorbs the first, and the state that the
RESET of both copies makes of power-on. -/

namespace Sys2Proof.Machine

/-! ## One RESET (R250, R251) -/

theorem Usart.txState_resetAt (x : Usart) (c : UnitConfig) (n : Nat) : (x.resetAt c n).txState = .idle := by
  simp [Usart.txState_idle_iff]

theorem Usart.resetAt_eq (x : Usart) (c : UnitConfig) (n : Nat) :
    x.resetAt c n = { x with
      txqValid := false, txsr := none, tctl := x.tctl ||| c.txeptMask, event := some (n + c.startupDelay),
      txEnabled := false, rxEnabled := false } := rfl

/-- Settles O39: the effect on the copy is `resetAt`, both flag masks are cleared in `IFG`, and no operation reaches further. -/
theorem resetWritesItsListOnly : Obligations.ResetWritesItsListOnly := by
  intro u cycle s
  have hcopy := usart_effect_reset u cycle s
  refine ⟨_, exec_eq_effect trivial, ?copy, ?idle, fun b => ?flags, rfl, sameElsewhere_effect (.reset u cycle) s⟩
  case copy => rw [hcopy, Usart.resetAt_eq]
  case idle => rw [hcopy, Usart.txState_resetAt]
  case flags => rw [ifg_effect_reset, clearBits_testBit]

/-! ## Two RESETs of one copy (R252) -/

/-- Every field that RESET writes is a constant, but for TXEPT, which stays set, and the target, which the later stamp gives. -/
theorem Usart.resetAt_resetAt (x : Usart) (c : UnitConfig) (n₁ n₂ : Nat) :
    (x.resetAt c n₁).resetAt c n₂ = x.resetAt c n₂ := by
  simp only [Usart.resetAt_eq, BitVec.or_assoc, BitVec.or_self]

theorem effect_reset_reset (u : UsartId) (n₁ n₂ : Nat) (s : State) :
    effect (.reset u n₂) (effect (.reset u n₁) s) = effect (.reset u n₂) s := by
  refine State.ext_usart ?_ (fun v => ?copy) ?flags ?_ ?_ ?_ ?_ ?_
  case copy =>
    by_cases hv : v = u
    · subst hv
      rw [usart_effect_reset, usart_effect_reset, usart_effect_reset, cfg_effect, Usart.resetAt_resetAt]
    · rw [usart_effect_ne _ _ hv, usart_effect_ne _ _ hv, usart_effect_ne _ _ hv]
  case flags => rw [ifg_effect_reset, ifg_effect_reset, ifg_effect_reset, cfg_effect, clearBits_clearBits_same]
  all_goals simp [answerOf]

/-- Settles O40: a RESET absorbs the one before it, at whatever cycle that one was. -/
theorem resetTwiceIsResetOnce : Obligations.ResetTwiceIsResetOnce := by
  intro u c₁ c₂ s
  refine ⟨_, exec_eq_effect trivial, ?later, ?same⟩
  case later => rw [exec_eq_effect trivial, exec_eq_effect trivial, effect_reset_reset]
  case same => rw [exec_eq_effect trivial, effect_reset_reset]

/-! ## Power-on and the RESET of each copy (R52, R254) -/

theorem State.usart_powerOn (cfg : Config) (f : Freqs) (u : UsartId) :
    (State.powerOn cfg f).usart u = Usart.powerOn (cfg.unit u) := by
  cases u <;> rfl

theorem State.usart_afterReset (cfg : Config) (f : Freqs) (n : Nat) (u : UsartId) :
    (State.afterReset cfg f n).usart u = Usart.afterReset (cfg.unit u) n := by
  cases u <;> rfl

theorem clearBits_zero_left (m : Nat) : clearBits 0 m = 0 := by simp [clearBits]

/-- The state that the RESETs of both copies make of power-on, for the host's counter still at its power-on value. -/
def State.resetBoth (cfg : Config) (f : Freqs) (n : Nat) : State :=
  effect (.reset .usart1 n) (effect (.reset .usart0 n) (State.powerOn cfg f))

theorem State.usart_resetBoth (cfg : Config) (f : Freqs) (n : Nat) (u : UsartId) :
    (State.resetBoth cfg f n).usart u = Usart.afterReset (cfg.unit u) n := by
  have hne : UsartId.usart0 ≠ UsartId.usart1 := nofun
  rw [Usart.afterReset_eq_resetAt, ← State.usart_powerOn cfg f, State.resetBoth]
  cases u with
  | usart0 => rw [usart_effect_ne (.reset .usart1 n) _ hne, usart_effect_reset]; rfl
  | usart1 => rw [usart_effect_reset, usart_effect_ne (.reset .usart0 n) _ hne.symm, cfg_effect]; rfl

theorem State.ifg_resetBoth (cfg : Config) (f : Freqs) (n : Nat) : (State.resetBoth cfg f n).ifg = 0 := by
  have hpower : (State.powerOn cfg f).ifg = 0 := rfl
  rw [State.resetBoth, ifg_effect_reset, ifg_effect_reset, hpower, clearBits_zero_left, clearBits_zero_left]

/-- No operation moves the host's counter (10_state.md R49); with it at the stamp, the state is the reset state. -/
theorem State.resetBoth_at_stamp (cfg : Config) (f : Freqs) (n : Nat) :
    { State.resetBoth cfg f n with cycle := n } = State.afterReset cfg f n := by
  refine State.ext_usart ?_ (fun u => ?copy) (State.ifg_resetBoth ..) ?_ ?_ rfl rfl ?_
  case copy => exact (State.usart_mk ..).trans <| (State.usart_resetBoth ..).trans (State.usart_afterReset ..).symm
  all_goals simp [State.resetBoth, State.afterReset, State.powerOn]

theorem Usart.slot_afterReset_of_ne_tctl {sl : Slot} (h : sl ≠ .tctl) (c : UnitConfig) (n : Nat) :
    (Usart.afterReset c n).slot sl = 0 := by
  cases sl with
  | tctl => exact absurd rfl h
  | _ => rfl

/-- With all of `IFG` at 0 neither flag of a copy is set (10_state.md R36, R37). -/
theorem State.flags_of_ifg_zero {s : State} (h : s.ifg = 0) (u : UsartId) :
    s.transmitReady u = false ∧ s.receiveReady u = false := by
  simp [State.transmitReady, State.receiveReady, State.getFlags, h]

/-- Settles O10: the two RESETs reach the reset state, whose fields are then read off. -/
theorem powerOnThenResets : Obligations.PowerOnThenResets := by
  refine ⟨fun cfg f cycle => ⟨_, State.resetBoth cfg f cycle, exec_eq_effect trivial, exec_eq_effect trivial,
    State.resetBoth_at_stamp .., fun u => ?_⟩, rfl⟩
  rw [State.usart_resetBoth]
  exact ⟨rfl, fun sl h => Usart.slot_afterReset_of_ne_tctl h _ _, rfl, rfl, rfl, rfl, rfl, rfl,
    State.flags_of_ifg_zero (State.ifg_resetBoth ..) u⟩

end Sys2Proof.Machine
end

section
/-! SUPPORT. When a step answers: what a step can do, read off as the host's guarantees, and the answer they secure. -/

namespace Sys2Proof.Machine

/-- A step that leads on was presented by a host that keeps its guarantees. -/
theorem presentable_of_step {s t : State} (h : step s = .next t) : s.Presentable := by
  refine ⟨(step_next h).1, ?_⟩
  cases stepsTo_of_step h with
  | operation r rest i hin hdec hcycle hp =>
    simp only [hin, hdec]
    exact ⟨hcycle, hp⟩
  | idle hin | writeIfg _ _ hin | writeIe _ _ hin | setFreqs _ _ hin => simp only [hin]

/-- A presented request is performed with it consumed and the counter at its stamp, neither of which a TICK's event depends on. -/
theorem exists_step_of_request {s : State} {r : Request} {rest : List Input} {i : Instr} (hw : s.cfg.wf = true)
    (hin : s.inputs = .request r :: rest) (hdec : decode s.cfg r = .ok i) (hcycle : s.cycle ≤ s.counterAt i)
    (hp : Performable i s) : ∃ t, step s = .next t := by
  have hp' : Performable i { s with inputs := rest, cycle := s.counterAt i } := (performable_congr fun u => by simp).mp hp
  exact ⟨_, (stepPerformsDecoded s r rest i hw hin hdec hcycle).trans (exec_eq_effect hp')⟩

/-- A host that keeps its guarantees is answered, whatever it does next. -/
theorem exists_step_of_presentable {s : State} (h : s.Presentable) : ∃ t, step s = .next t := by
  obtain ⟨hw, hnext⟩ := h
  cases hin : s.inputs with
  | nil => exact ⟨_, step_of_inputs_nil hw hin⟩
  | cons e rest =>
    cases e with
    | request r =>
      cases hdec : decode s.cfg r with
      | error e => simp only [hin, hdec] at hnext
      | ok i =>
        simp only [hin, hdec] at hnext
        obtain ⟨hcycle, hp⟩ := hnext
        exact exists_step_of_request hw hin hdec hcycle hp
    | writeIfg | writeIe | setFreqs => exact ⟨_, step_of_inputs_cons hw hin⟩

/-- Settles O8: a step leads on exactly when the host keeps its guarantees, and there is no fault to stop with. -/
theorem stepAnswersExactlyWhenPresentable : Obligations.StepAnswersExactlyWhenPresentable := fun _ =>
  ⟨⟨fun ⟨_, h⟩ => presentable_of_step h, exists_step_of_presentable⟩, nofun⟩

end Sys2Proof.Machine
end
